-- ==== Sys2Proof/Word.lean ====
section
/-! DEFINITION. The word types of the DPD Declet Unit, bit 0 least significant everywhere (00_scope.md R9, R11). -/

namespace Sys2Proof

/-- A command word or a result word: `CMD_BITS` = `RESULT_BITS` = 32 (R9). -/
abbrev Word := BitVec 32

/-- A 10-bit field: a declet code, a digit-group value or a step `k` (`DECLET_BITS` = 10, R9, R61). -/
abbrev Declet := BitVec 10

/-- The 4-bit `OP` field of a command (30_encoding.md R60). -/
abbrev Opcode := BitVec 4

/-- The 4-bit `STATUS` of a response (`STATUS_BITS` = 4, R9; 60_exceptions.md R150). -/
abbrev StatusCode := BitVec 4

/-- One byte lane of a bus adapter (20_memory.md R44). -/
abbrev Byte := BitVec 8

end Sys2Proof
end

