-- ==== Sys2Proof/Syntax.lean ====
section
/-! DEFINITION. The nine operations of the DDU, one constructor per row of spec/opcode_table.json
(30_encoding.md R63, R64). Every operand is an unsigned field of the command word (R62). -/

namespace Sys2Proof

/-- A command with a legal opcode and its reserved bits zero (R64, R66). -/
inductive Instr
  /-- INT2DPD (40_codec.md R87): `value` is field `A`. -/
  | int2dpd (value : Declet)
  /-- DPD2INT (R88): `code` is field `A`. -/
  | dpd2int (code : Declet)
  /-- CANON (41_normalizer.md R101): `code` is field `A`. -/
  | canon (code : Declet)
  /-- ISCANON (R102): `code` is field `A`. -/
  | iscanon (code : Declet)
  /-- INC (42_arithmetic.md R122): `code` is field `A`, `k` is field `B`. -/
  | inc (code : Declet) (k : Declet)
  /-- DEC (R123): `code` is field `A`, `k` is field `B`. -/
  | dec (code : Declet) (k : Declet)
  /-- ADD (R124): `a`, `b` are fields `A`, `B`; `ci` is the carry-in. -/
  | add (a : Declet) (b : Declet) (ci : Bool)
  /-- SUB (R125): `a`, `b` are fields `A`, `B`; `bi` is the borrow-in, in field `CI`. -/
  | sub (a : Declet) (b : Declet) (bi : Bool)
  /-- CMP (R126): `a`, `b` are fields `A`, `B`. -/
  | cmp (a : Declet) (b : Declet)
  deriving DecidableEq, Repr

end Sys2Proof
end

