-- ==== Sys2Proof/Machine/Operands.lean ====
section
/-! DEFINITION. The fields of a command word (30_encoding.md R60) and the assembly of operands from them (R62):
every field is an unsigned number, nothing is scaled, shifted or sign-extended. -/

namespace Sys2Proof.Machine

/-- `OP`, bits 31:28. -/
def opField (w : Word) : Opcode := w.extractLsb' 28 4

/-- `RSV3`, bits 27:25. -/
def rsv3Field (w : Word) : BitVec 3 := w.extractLsb' 25 3

/-- `CI`, bit 24. -/
def ciField (w : Word) : Bool := w.getLsbD 24

/-- `RSV2`, bits 23:22. -/
def rsv2Field (w : Word) : BitVec 2 := w.extractLsb' 22 2

/-- `B`, bits 21:12. -/
def bField (w : Word) : Declet := w.extractLsb' 12 10

/-- `RSV1`, bits 11:10. -/
def rsv1Field (w : Word) : BitVec 2 := w.extractLsb' 10 2

/-- `A`, bits 9:0. -/
def aField (w : Word) : Declet := w.extractLsb' 0 10

/-- `CMD = (OP << 28) | (CI << 24) | (B << 12) | A` (R60). -/
def commandWord (op : Opcode) (ci : Bool) (b a : Declet) : Word :=
  op.setWidth 32 <<< 28 ||| (BitVec.ofBool ci).setWidth 32 <<< 24 ||| b.setWidth 32 <<< 12 ||| a.setWidth 32

end Sys2Proof.Machine
end

