-- ==== Sys2Proof/Machine/Status.lean ====
section
/-! DEFINITION. Fault causes, STATUS codes and the response of a command (60_exceptions.md R150, R152). -/

namespace Sys2Proof.Machine

/-- The four causes a command can fault with (R150). -/
inductive Cause
  /-- OP is 0x0 or 0xA to 0xF (R153). -/
  | illegalOp
  /-- A reserved bit or an unused field of a legal OP is nonzero (R156). -/
  | reservedBits
  /-- INT2DPD with A > 999 (R154). -/
  | domainValue
  /-- INC or DEC with k > 1000 (R155). -/
  | domainK
  deriving DecidableEq, Repr

/-- `OK`, the STATUS of a command that did not fault (R150). -/
def statusOk : StatusCode := 0x0#4

/-- The STATUS code of a cause (R150). -/
def causeCode : Cause → StatusCode
  | .illegalOp => 0x1#4
  | .reservedBits => 0x2#4
  | .domainValue => 0x3#4
  | .domainK => 0x4#4

/-- The largest STATUS code that is ever produced; 0x5 to 0xF are reserved (R150). -/
def statusMax : Nat := 4

/-- What a command answers: a result with STATUS OK, or a fault cause and no result (R24, R152). -/
inductive Response
  | ok (result : Word)
  | fault (cause : Cause)
  deriving DecidableEq, Repr

/-- RESULT of a response: no value when the command faulted (R152). -/
def responseResult : Response → Option Word
  | .ok r => some r
  | .fault _ => none

/-- STATUS of a response (R150). -/
def responseStatus : Response → StatusCode
  | .ok _ => statusOk
  | .fault c => causeCode c

end Sys2Proof.Machine
end

