-- ==== Sys2Proof/Decode.lean ====
section
/-! DEFINITION. The opcode map with its match and mask per operation (30_encoding.md R64), the decoder (R65 to R67),
total on all 2^32 words and rejecting by cause, and after it the encoder (R60). -/

namespace Sys2Proof

open Sys2Proof.Machine (Cause opField ciField bField aField commandWord)

/-- One row of the opcode map: a word selects it when `w &&& mask = pattern` (R64). -/
structure OpcodeRow where
  op : Opcode
  pattern : Word
  mask : Word
  deriving DecidableEq, Repr

/-- The opcode map of R64, in the table's order. -/
def opcodeTable : List OpcodeRow :=
  [ ⟨0x1#4, 0x10000000#32, 0xFFFFFC00#32⟩   -- INT2DPD
  , ⟨0x2#4, 0x20000000#32, 0xFFFFFC00#32⟩   -- DPD2INT
  , ⟨0x3#4, 0x30000000#32, 0xFFFFFC00#32⟩   -- CANON
  , ⟨0x4#4, 0x40000000#32, 0xFFFFFC00#32⟩   -- ISCANON
  , ⟨0x5#4, 0x50000000#32, 0xFFC00C00#32⟩   -- INC
  , ⟨0x6#4, 0x60000000#32, 0xFFC00C00#32⟩   -- DEC
  , ⟨0x7#4, 0x70000000#32, 0xFEC00C00#32⟩   -- ADD
  , ⟨0x8#4, 0x80000000#32, 0xFEC00C00#32⟩   -- SUB
  , ⟨0x9#4, 0x90000000#32, 0xFFC00C00#32⟩ ] -- CMP

/-- The row of an opcode; none for a reserved one (R65). -/
def rowOf (op : Opcode) : Option OpcodeRow := opcodeTable.find? (fun r => r.op == op)

/-- The instruction an opcode makes of the operand fields (R63); none for a reserved opcode. -/
def instrOf (op : Opcode) (a b : Declet) (ci : Bool) : Option Instr :=
  match op.toNat with
  | 1 => some (.int2dpd a)
  | 2 => some (.dpd2int a)
  | 3 => some (.canon a)
  | 4 => some (.iscanon a)
  | 5 => some (.inc a b)
  | 6 => some (.dec a b)
  | 7 => some (.add a b ci)
  | 8 => some (.sub a b ci)
  | 9 => some (.cmp a b)
  | _ => none

/-- The decode half of `execute` (R67): first the opcode, then the reserved bits and unused fields (R151). -/
def decode (w : Word) : Except Cause Instr :=
  match rowOf (opField w), instrOf (opField w) (aField w) (bField w) (ciField w) with
  | some r, some i => if w &&& r.mask = r.pattern then .ok i else .error .reservedBits
  | _, _ => .error .illegalOp

/-- The opcode of an instruction (R63, R64). -/
def opcodeOf : Instr → Opcode
  | .int2dpd _ => 0x1#4
  | .dpd2int _ => 0x2#4
  | .canon _ => 0x3#4
  | .iscanon _ => 0x4#4
  | .inc _ _ => 0x5#4
  | .dec _ _ => 0x6#4
  | .add _ _ _ => 0x7#4
  | .sub _ _ _ => 0x8#4
  | .cmp _ _ => 0x9#4

/-- The command word of an instruction: R60 with the unused fields of R63 zero. -/
def encode : Instr → Word
  | .int2dpd value => commandWord 0x1#4 false 0#10 value
  | .dpd2int code => commandWord 0x2#4 false 0#10 code
  | .canon code => commandWord 0x3#4 false 0#10 code
  | .iscanon code => commandWord 0x4#4 false 0#10 code
  | .inc code k => commandWord 0x5#4 false k code
  | .dec code k => commandWord 0x6#4 false k code
  | .add a b ci => commandWord 0x7#4 ci b a
  | .sub a b bi => commandWord 0x8#4 bi b a
  | .cmp a b => commandWord 0x9#4 false b a

/-- The word of `nbits` bits `w`, every bit above them zero (log entry 13). -/
def tableWord (nbits w : Nat) : Word := BitVec.ofNat 32 (w % 2 ^ nbits)

/-- The instruction the decoder reads from an opcode-table word; a DDU command crosses the port whole,
bit 0 least significant (20_memory.md R44), so no byte order is involved (log entry 13). -/
def decodeTableWord (nbits w : Nat) : Option Instr :=
  match decode (tableWord nbits w) with
  | .ok i => some i
  | .error _ => none

end Sys2Proof
end

