-- ==== Sys2Proof/Config.lean ====
section
/-! DEFINITION. The fixed parameters of 00_scope.md R9 and the two open parameters of R10, which have no body. -/

namespace Sys2Proof.Config

/-- The largest digit-group value (`VALUE_RANGE` is 0 to 999, R9). -/
def valueMax : Nat := 999

/-- `K_MAX`: the largest step `k` that INC and DEC admit (R9). -/
def kMax : Nat := 1000

/-- The base of the declet arithmetic (42_arithmetic.md R127). -/
def base : Nat := 1000

/-- `CARRY_BIT`: the bit of RESULT that holds the carry or borrow (R9). -/
def carryBit : Nat := 10

/-- FREE VALUE: by how much `LATENCY` of an operation exceeds 1 (R10, R187; log entry 5). -/
opaque latencyBeyondOne : Opcode → Nat

/-- `LATENCY`: edges from acceptance to response, a natural number of at least 1, possibly different
for each value of `OP` (R10, R25, R187; log entry 5). -/
def latency (op : Opcode) : Nat := latencyBeyondOne op + 1

/-- FREE VALUE: `HOST_BYTE_ORDER`, which byte lane of a bus carries which byte of a word
(R10, 20_memory.md R44; log entry 6). -/
opaque hostByteOrder : Equiv.Perm (Fin 4)

end Sys2Proof.Config
end

