-- ==== Sys2Proof/Machine/Rom.lean ====
section
/-! DEFINITION. The two read-only memories of the DDU as the listings of 20_memory.md section 5 (R40 to R42), their
reads (R46), and beside them the encoding and decoding tables of 40_codec.md R83 and R84 that the listings must equal. -/

namespace Sys2Proof.Machine

/-! ## Table ENC: `ROM_ENC[v]` for v = 0 to 999, one piece per hundred values, a row per ten -/

/-- `ROM_ENC[0]` to `ROM_ENC[99]` (R41, Table ENC). -/
def romEncRows0 : List (List Nat) :=
  [ [0x000, 0x001, 0x002, 0x003, 0x004, 0x005, 0x006, 0x007, 0x008, 0x009],
    [0x010, 0x011, 0x012, 0x013, 0x014, 0x015, 0x016, 0x017, 0x018, 0x019],
    [0x020, 0x021, 0x022, 0x023, 0x024, 0x025, 0x026, 0x027, 0x028, 0x029],
    [0x030, 0x031, 0x032, 0x033, 0x034, 0x035, 0x036, 0x037, 0x038, 0x039],
    [0x040, 0x041, 0x042, 0x043, 0x044, 0x045, 0x046, 0x047, 0x048, 0x049],
    [0x050, 0x051, 0x052, 0x053, 0x054, 0x055, 0x056, 0x057, 0x058, 0x059],
    [0x060, 0x061, 0x062, 0x063, 0x064, 0x065, 0x066, 0x067, 0x068, 0x069],
    [0x070, 0x071, 0x072, 0x073, 0x074, 0x075, 0x076, 0x077, 0x078, 0x079],
    [0x00A, 0x00B, 0x02A, 0x02B, 0x04A, 0x04B, 0x06A, 0x06B, 0x04E, 0x04F],
    [0x01A, 0x01B, 0x03A, 0x03B, 0x05A, 0x05B, 0x07A, 0x07B, 0x05E, 0x05F] ]

/-- `ROM_ENC[100]` to `ROM_ENC[199]` (R41, Table ENC). -/
def romEncRows1 : List (List Nat) :=
  [ [0x080, 0x081, 0x082, 0x083, 0x084, 0x085, 0x086, 0x087, 0x088, 0x089],
    [0x090, 0x091, 0x092, 0x093, 0x094, 0x095, 0x096, 0x097, 0x098, 0x099],
    [0x0A0, 0x0A1, 0x0A2, 0x0A3, 0x0A4, 0x0A5, 0x0A6, 0x0A7, 0x0A8, 0x0A9],
    [0x0B0, 0x0B1, 0x0B2, 0x0B3, 0x0B4, 0x0B5, 0x0B6, 0x0B7, 0x0B8, 0x0B9],
    [0x0C0, 0x0C1, 0x0C2, 0x0C3, 0x0C4, 0x0C5, 0x0C6, 0x0C7, 0x0C8, 0x0C9],
    [0x0D0, 0x0D1, 0x0D2, 0x0D3, 0x0D4, 0x0D5, 0x0D6, 0x0D7, 0x0D8, 0x0D9],
    [0x0E0, 0x0E1, 0x0E2, 0x0E3, 0x0E4, 0x0E5, 0x0E6, 0x0E7, 0x0E8, 0x0E9],
    [0x0F0, 0x0F1, 0x0F2, 0x0F3, 0x0F4, 0x0F5, 0x0F6, 0x0F7, 0x0F8, 0x0F9],
    [0x08A, 0x08B, 0x0AA, 0x0AB, 0x0CA, 0x0CB, 0x0EA, 0x0EB, 0x0CE, 0x0CF],
    [0x09A, 0x09B, 0x0BA, 0x0BB, 0x0DA, 0x0DB, 0x0FA, 0x0FB, 0x0DE, 0x0DF] ]

/-- `ROM_ENC[200]` to `ROM_ENC[299]` (R41, Table ENC). -/
def romEncRows2 : List (List Nat) :=
  [ [0x100, 0x101, 0x102, 0x103, 0x104, 0x105, 0x106, 0x107, 0x108, 0x109],
    [0x110, 0x111, 0x112, 0x113, 0x114, 0x115, 0x116, 0x117, 0x118, 0x119],
    [0x120, 0x121, 0x122, 0x123, 0x124, 0x125, 0x126, 0x127, 0x128, 0x129],
    [0x130, 0x131, 0x132, 0x133, 0x134, 0x135, 0x136, 0x137, 0x138, 0x139],
    [0x140, 0x141, 0x142, 0x143, 0x144, 0x145, 0x146, 0x147, 0x148, 0x149],
    [0x150, 0x151, 0x152, 0x153, 0x154, 0x155, 0x156, 0x157, 0x158, 0x159],
    [0x160, 0x161, 0x162, 0x163, 0x164, 0x165, 0x166, 0x167, 0x168, 0x169],
    [0x170, 0x171, 0x172, 0x173, 0x174, 0x175, 0x176, 0x177, 0x178, 0x179],
    [0x10A, 0x10B, 0x12A, 0x12B, 0x14A, 0x14B, 0x16A, 0x16B, 0x14E, 0x14F],
    [0x11A, 0x11B, 0x13A, 0x13B, 0x15A, 0x15B, 0x17A, 0x17B, 0x15E, 0x15F] ]

/-- `ROM_ENC[300]` to `ROM_ENC[399]` (R41, Table ENC). -/
def romEncRows3 : List (List Nat) :=
  [ [0x180, 0x181, 0x182, 0x183, 0x184, 0x185, 0x186, 0x187, 0x188, 0x189],
    [0x190, 0x191, 0x192, 0x193, 0x194, 0x195, 0x196, 0x197, 0x198, 0x199],
    [0x1A0, 0x1A1, 0x1A2, 0x1A3, 0x1A4, 0x1A5, 0x1A6, 0x1A7, 0x1A8, 0x1A9],
    [0x1B0, 0x1B1, 0x1B2, 0x1B3, 0x1B4, 0x1B5, 0x1B6, 0x1B7, 0x1B8, 0x1B9],
    [0x1C0, 0x1C1, 0x1C2, 0x1C3, 0x1C4, 0x1C5, 0x1C6, 0x1C7, 0x1C8, 0x1C9],
    [0x1D0, 0x1D1, 0x1D2, 0x1D3, 0x1D4, 0x1D5, 0x1D6, 0x1D7, 0x1D8, 0x1D9],
    [0x1E0, 0x1E1, 0x1E2, 0x1E3, 0x1E4, 0x1E5, 0x1E6, 0x1E7, 0x1E8, 0x1E9],
    [0x1F0, 0x1F1, 0x1F2, 0x1F3, 0x1F4, 0x1F5, 0x1F6, 0x1F7, 0x1F8, 0x1F9],
    [0x18A, 0x18B, 0x1AA, 0x1AB, 0x1CA, 0x1CB, 0x1EA, 0x1EB, 0x1CE, 0x1CF],
    [0x19A, 0x19B, 0x1BA, 0x1BB, 0x1DA, 0x1DB, 0x1FA, 0x1FB, 0x1DE, 0x1DF] ]

/-- `ROM_ENC[400]` to `ROM_ENC[499]` (R41, Table ENC). -/
def romEncRows4 : List (List Nat) :=
  [ [0x200, 0x201, 0x202, 0x203, 0x204, 0x205, 0x206, 0x207, 0x208, 0x209],
    [0x210, 0x211, 0x212, 0x213, 0x214, 0x215, 0x216, 0x217, 0x218, 0x219],
    [0x220, 0x221, 0x222, 0x223, 0x224, 0x225, 0x226, 0x227, 0x228, 0x229],
    [0x230, 0x231, 0x232, 0x233, 0x234, 0x235, 0x236, 0x237, 0x238, 0x239],
    [0x240, 0x241, 0x242, 0x243, 0x244, 0x245, 0x246, 0x247, 0x248, 0x249],
    [0x250, 0x251, 0x252, 0x253, 0x254, 0x255, 0x256, 0x257, 0x258, 0x259],
    [0x260, 0x261, 0x262, 0x263, 0x264, 0x265, 0x266, 0x267, 0x268, 0x269],
    [0x270, 0x271, 0x272, 0x273, 0x274, 0x275, 0x276, 0x277, 0x278, 0x279],
    [0x20A, 0x20B, 0x22A, 0x22B, 0x24A, 0x24B, 0x26A, 0x26B, 0x24E, 0x24F],
    [0x21A, 0x21B, 0x23A, 0x23B, 0x25A, 0x25B, 0x27A, 0x27B, 0x25E, 0x25F] ]

/-- `ROM_ENC[500]` to `ROM_ENC[599]` (R41, Table ENC). -/
def romEncRows5 : List (List Nat) :=
  [ [0x280, 0x281, 0x282, 0x283, 0x284, 0x285, 0x286, 0x287, 0x288, 0x289],
    [0x290, 0x291, 0x292, 0x293, 0x294, 0x295, 0x296, 0x297, 0x298, 0x299],
    [0x2A0, 0x2A1, 0x2A2, 0x2A3, 0x2A4, 0x2A5, 0x2A6, 0x2A7, 0x2A8, 0x2A9],
    [0x2B0, 0x2B1, 0x2B2, 0x2B3, 0x2B4, 0x2B5, 0x2B6, 0x2B7, 0x2B8, 0x2B9],
    [0x2C0, 0x2C1, 0x2C2, 0x2C3, 0x2C4, 0x2C5, 0x2C6, 0x2C7, 0x2C8, 0x2C9],
    [0x2D0, 0x2D1, 0x2D2, 0x2D3, 0x2D4, 0x2D5, 0x2D6, 0x2D7, 0x2D8, 0x2D9],
    [0x2E0, 0x2E1, 0x2E2, 0x2E3, 0x2E4, 0x2E5, 0x2E6, 0x2E7, 0x2E8, 0x2E9],
    [0x2F0, 0x2F1, 0x2F2, 0x2F3, 0x2F4, 0x2F5, 0x2F6, 0x2F7, 0x2F8, 0x2F9],
    [0x28A, 0x28B, 0x2AA, 0x2AB, 0x2CA, 0x2CB, 0x2EA, 0x2EB, 0x2CE, 0x2CF],
    [0x29A, 0x29B, 0x2BA, 0x2BB, 0x2DA, 0x2DB, 0x2FA, 0x2FB, 0x2DE, 0x2DF] ]

/-- `ROM_ENC[600]` to `ROM_ENC[699]` (R41, Table ENC). -/
def romEncRows6 : List (List Nat) :=
  [ [0x300, 0x301, 0x302, 0x303, 0x304, 0x305, 0x306, 0x307, 0x308, 0x309],
    [0x310, 0x311, 0x312, 0x313, 0x314, 0x315, 0x316, 0x317, 0x318, 0x319],
    [0x320, 0x321, 0x322, 0x323, 0x324, 0x325, 0x326, 0x327, 0x328, 0x329],
    [0x330, 0x331, 0x332, 0x333, 0x334, 0x335, 0x336, 0x337, 0x338, 0x339],
    [0x340, 0x341, 0x342, 0x343, 0x344, 0x345, 0x346, 0x347, 0x348, 0x349],
    [0x350, 0x351, 0x352, 0x353, 0x354, 0x355, 0x356, 0x357, 0x358, 0x359],
    [0x360, 0x361, 0x362, 0x363, 0x364, 0x365, 0x366, 0x367, 0x368, 0x369],
    [0x370, 0x371, 0x372, 0x373, 0x374, 0x375, 0x376, 0x377, 0x378, 0x379],
    [0x30A, 0x30B, 0x32A, 0x32B, 0x34A, 0x34B, 0x36A, 0x36B, 0x34E, 0x34F],
    [0x31A, 0x31B, 0x33A, 0x33B, 0x35A, 0x35B, 0x37A, 0x37B, 0x35E, 0x35F] ]

/-- `ROM_ENC[700]` to `ROM_ENC[799]` (R41, Table ENC). -/
def romEncRows7 : List (List Nat) :=
  [ [0x380, 0x381, 0x382, 0x383, 0x384, 0x385, 0x386, 0x387, 0x388, 0x389],
    [0x390, 0x391, 0x392, 0x393, 0x394, 0x395, 0x396, 0x397, 0x398, 0x399],
    [0x3A0, 0x3A1, 0x3A2, 0x3A3, 0x3A4, 0x3A5, 0x3A6, 0x3A7, 0x3A8, 0x3A9],
    [0x3B0, 0x3B1, 0x3B2, 0x3B3, 0x3B4, 0x3B5, 0x3B6, 0x3B7, 0x3B8, 0x3B9],
    [0x3C0, 0x3C1, 0x3C2, 0x3C3, 0x3C4, 0x3C5, 0x3C6, 0x3C7, 0x3C8, 0x3C9],
    [0x3D0, 0x3D1, 0x3D2, 0x3D3, 0x3D4, 0x3D5, 0x3D6, 0x3D7, 0x3D8, 0x3D9],
    [0x3E0, 0x3E1, 0x3E2, 0x3E3, 0x3E4, 0x3E5, 0x3E6, 0x3E7, 0x3E8, 0x3E9],
    [0x3F0, 0x3F1, 0x3F2, 0x3F3, 0x3F4, 0x3F5, 0x3F6, 0x3F7, 0x3F8, 0x3F9],
    [0x38A, 0x38B, 0x3AA, 0x3AB, 0x3CA, 0x3CB, 0x3EA, 0x3EB, 0x3CE, 0x3CF],
    [0x39A, 0x39B, 0x3BA, 0x3BB, 0x3DA, 0x3DB, 0x3FA, 0x3FB, 0x3DE, 0x3DF] ]

/-- `ROM_ENC[800]` to `ROM_ENC[899]` (R41, Table ENC). -/
def romEncRows8 : List (List Nat) :=
  [ [0x00C, 0x00D, 0x10C, 0x10D, 0x20C, 0x20D, 0x30C, 0x30D, 0x02E, 0x02F],
    [0x01C, 0x01D, 0x11C, 0x11D, 0x21C, 0x21D, 0x31C, 0x31D, 0x03E, 0x03F],
    [0x02C, 0x02D, 0x12C, 0x12D, 0x22C, 0x22D, 0x32C, 0x32D, 0x12E, 0x12F],
    [0x03C, 0x03D, 0x13C, 0x13D, 0x23C, 0x23D, 0x33C, 0x33D, 0x13E, 0x13F],
    [0x04C, 0x04D, 0x14C, 0x14D, 0x24C, 0x24D, 0x34C, 0x34D, 0x22E, 0x22F],
    [0x05C, 0x05D, 0x15C, 0x15D, 0x25C, 0x25D, 0x35C, 0x35D, 0x23E, 0x23F],
    [0x06C, 0x06D, 0x16C, 0x16D, 0x26C, 0x26D, 0x36C, 0x36D, 0x32E, 0x32F],
    [0x07C, 0x07D, 0x17C, 0x17D, 0x27C, 0x27D, 0x37C, 0x37D, 0x33E, 0x33F],
    [0x00E, 0x00F, 0x10E, 0x10F, 0x20E, 0x20F, 0x30E, 0x30F, 0x06E, 0x06F],
    [0x01E, 0x01F, 0x11E, 0x11F, 0x21E, 0x21F, 0x31E, 0x31F, 0x07E, 0x07F] ]

/-- `ROM_ENC[900]` to `ROM_ENC[999]` (R41, Table ENC). -/
def romEncRows9 : List (List Nat) :=
  [ [0x08C, 0x08D, 0x18C, 0x18D, 0x28C, 0x28D, 0x38C, 0x38D, 0x0AE, 0x0AF],
    [0x09C, 0x09D, 0x19C, 0x19D, 0x29C, 0x29D, 0x39C, 0x39D, 0x0BE, 0x0BF],
    [0x0AC, 0x0AD, 0x1AC, 0x1AD, 0x2AC, 0x2AD, 0x3AC, 0x3AD, 0x1AE, 0x1AF],
    [0x0BC, 0x0BD, 0x1BC, 0x1BD, 0x2BC, 0x2BD, 0x3BC, 0x3BD, 0x1BE, 0x1BF],
    [0x0CC, 0x0CD, 0x1CC, 0x1CD, 0x2CC, 0x2CD, 0x3CC, 0x3CD, 0x2AE, 0x2AF],
    [0x0DC, 0x0DD, 0x1DC, 0x1DD, 0x2DC, 0x2DD, 0x3DC, 0x3DD, 0x2BE, 0x2BF],
    [0x0EC, 0x0ED, 0x1EC, 0x1ED, 0x2EC, 0x2ED, 0x3EC, 0x3ED, 0x3AE, 0x3AF],
    [0x0FC, 0x0FD, 0x1FC, 0x1FD, 0x2FC, 0x2FD, 0x3FC, 0x3FD, 0x3BE, 0x3BF],
    [0x08E, 0x08F, 0x18E, 0x18F, 0x28E, 0x28F, 0x38E, 0x38F, 0x0EE, 0x0EF],
    [0x09E, 0x09F, 0x19E, 0x19F, 0x29E, 0x29F, 0x39E, 0x39F, 0x0FE, 0x0FF] ]

/-- The contents of `ROM_ENC`: 100 rows of 10 entries, row `n` holding `ROM_ENC[10 n]` onward (R40, R41). -/
def romEncTable : List (List Nat) :=
  romEncRows0 ++ romEncRows1 ++ romEncRows2 ++ romEncRows3 ++ romEncRows4 ++ romEncRows5 ++ romEncRows6 ++
    romEncRows7 ++ romEncRows8 ++ romEncRows9

/-! ## Table DEC: `ROM_DEC[c]` for c = 0x000 to 0x3FF, one piece per 256 codes, a row per sixteen -/

/-- `ROM_DEC[0x000]` to `ROM_DEC[0x0FF]` (R42, Table DEC). -/
def romDecRows0 : List (List Nat) :=
  [ [0, 1, 2, 3, 4, 5, 6, 7, 8, 9, 80, 81, 800, 801, 880, 881],
    [10, 11, 12, 13, 14, 15, 16, 17, 18, 19, 90, 91, 810, 811, 890, 891],
    [20, 21, 22, 23, 24, 25, 26, 27, 28, 29, 82, 83, 820, 821, 808, 809],
    [30, 31, 32, 33, 34, 35, 36, 37, 38, 39, 92, 93, 830, 831, 818, 819],
    [40, 41, 42, 43, 44, 45, 46, 47, 48, 49, 84, 85, 840, 841, 88, 89],
    [50, 51, 52, 53, 54, 55, 56, 57, 58, 59, 94, 95, 850, 851, 98, 99],
    [60, 61, 62, 63, 64, 65, 66, 67, 68, 69, 86, 87, 860, 861, 888, 889],
    [70, 71, 72, 73, 74, 75, 76, 77, 78, 79, 96, 97, 870, 871, 898, 899],
    [100, 101, 102, 103, 104, 105, 106, 107, 108, 109, 180, 181, 900, 901, 980, 981],
    [110, 111, 112, 113, 114, 115, 116, 117, 118, 119, 190, 191, 910, 911, 990, 991],
    [120, 121, 122, 123, 124, 125, 126, 127, 128, 129, 182, 183, 920, 921, 908, 909],
    [130, 131, 132, 133, 134, 135, 136, 137, 138, 139, 192, 193, 930, 931, 918, 919],
    [140, 141, 142, 143, 144, 145, 146, 147, 148, 149, 184, 185, 940, 941, 188, 189],
    [150, 151, 152, 153, 154, 155, 156, 157, 158, 159, 194, 195, 950, 951, 198, 199],
    [160, 161, 162, 163, 164, 165, 166, 167, 168, 169, 186, 187, 960, 961, 988, 989],
    [170, 171, 172, 173, 174, 175, 176, 177, 178, 179, 196, 197, 970, 971, 998, 999] ]

/-- `ROM_DEC[0x100]` to `ROM_DEC[0x1FF]` (R42, Table DEC). -/
def romDecRows1 : List (List Nat) :=
  [ [200, 201, 202, 203, 204, 205, 206, 207, 208, 209, 280, 281, 802, 803, 882, 883],
    [210, 211, 212, 213, 214, 215, 216, 217, 218, 219, 290, 291, 812, 813, 892, 893],
    [220, 221, 222, 223, 224, 225, 226, 227, 228, 229, 282, 283, 822, 823, 828, 829],
    [230, 231, 232, 233, 234, 235, 236, 237, 238, 239, 292, 293, 832, 833, 838, 839],
    [240, 241, 242, 243, 244, 245, 246, 247, 248, 249, 284, 285, 842, 843, 288, 289],
    [250, 251, 252, 253, 254, 255, 256, 257, 258, 259, 294, 295, 852, 853, 298, 299],
    [260, 261, 262, 263, 264, 265, 266, 267, 268, 269, 286, 287, 862, 863, 888, 889],
    [270, 271, 272, 273, 274, 275, 276, 277, 278, 279, 296, 297, 872, 873, 898, 899],
    [300, 301, 302, 303, 304, 305, 306, 307, 308, 309, 380, 381, 902, 903, 982, 983],
    [310, 311, 312, 313, 314, 315, 316, 317, 318, 319, 390, 391, 912, 913, 992, 993],
    [320, 321, 322, 323, 324, 325, 326, 327, 328, 329, 382, 383, 922, 923, 928, 929],
    [330, 331, 332, 333, 334, 335, 336, 337, 338, 339, 392, 393, 932, 933, 938, 939],
    [340, 341, 342, 343, 344, 345, 346, 347, 348, 349, 384, 385, 942, 943, 388, 389],
    [350, 351, 352, 353, 354, 355, 356, 357, 358, 359, 394, 395, 952, 953, 398, 399],
    [360, 361, 362, 363, 364, 365, 366, 367, 368, 369, 386, 387, 962, 963, 988, 989],
    [370, 371, 372, 373, 374, 375, 376, 377, 378, 379, 396, 397, 972, 973, 998, 999] ]

/-- `ROM_DEC[0x200]` to `ROM_DEC[0x2FF]` (R42, Table DEC). -/
def romDecRows2 : List (List Nat) :=
  [ [400, 401, 402, 403, 404, 405, 406, 407, 408, 409, 480, 481, 804, 805, 884, 885],
    [410, 411, 412, 413, 414, 415, 416, 417, 418, 419, 490, 491, 814, 815, 894, 895],
    [420, 421, 422, 423, 424, 425, 426, 427, 428, 429, 482, 483, 824, 825, 848, 849],
    [430, 431, 432, 433, 434, 435, 436, 437, 438, 439, 492, 493, 834, 835, 858, 859],
    [440, 441, 442, 443, 444, 445, 446, 447, 448, 449, 484, 485, 844, 845, 488, 489],
    [450, 451, 452, 453, 454, 455, 456, 457, 458, 459, 494, 495, 854, 855, 498, 499],
    [460, 461, 462, 463, 464, 465, 466, 467, 468, 469, 486, 487, 864, 865, 888, 889],
    [470, 471, 472, 473, 474, 475, 476, 477, 478, 479, 496, 497, 874, 875, 898, 899],
    [500, 501, 502, 503, 504, 505, 506, 507, 508, 509, 580, 581, 904, 905, 984, 985],
    [510, 511, 512, 513, 514, 515, 516, 517, 518, 519, 590, 591, 914, 915, 994, 995],
    [520, 521, 522, 523, 524, 525, 526, 527, 528, 529, 582, 583, 924, 925, 948, 949],
    [530, 531, 532, 533, 534, 535, 536, 537, 538, 539, 592, 593, 934, 935, 958, 959],
    [540, 541, 542, 543, 544, 545, 546, 547, 548, 549, 584, 585, 944, 945, 588, 589],
    [550, 551, 552, 553, 554, 555, 556, 557, 558, 559, 594, 595, 954, 955, 598, 599],
    [560, 561, 562, 563, 564, 565, 566, 567, 568, 569, 586, 587, 964, 965, 988, 989],
    [570, 571, 572, 573, 574, 575, 576, 577, 578, 579, 596, 597, 974, 975, 998, 999] ]

/-- `ROM_DEC[0x300]` to `ROM_DEC[0x3FF]` (R42, Table DEC). -/
def romDecRows3 : List (List Nat) :=
  [ [600, 601, 602, 603, 604, 605, 606, 607, 608, 609, 680, 681, 806, 807, 886, 887],
    [610, 611, 612, 613, 614, 615, 616, 617, 618, 619, 690, 691, 816, 817, 896, 897],
    [620, 621, 622, 623, 624, 625, 626, 627, 628, 629, 682, 683, 826, 827, 868, 869],
    [630, 631, 632, 633, 634, 635, 636, 637, 638, 639, 692, 693, 836, 837, 878, 879],
    [640, 641, 642, 643, 644, 645, 646, 647, 648, 649, 684, 685, 846, 847, 688, 689],
    [650, 651, 652, 653, 654, 655, 656, 657, 658, 659, 694, 695, 856, 857, 698, 699],
    [660, 661, 662, 663, 664, 665, 666, 667, 668, 669, 686, 687, 866, 867, 888, 889],
    [670, 671, 672, 673, 674, 675, 676, 677, 678, 679, 696, 697, 876, 877, 898, 899],
    [700, 701, 702, 703, 704, 705, 706, 707, 708, 709, 780, 781, 906, 907, 986, 987],
    [710, 711, 712, 713, 714, 715, 716, 717, 718, 719, 790, 791, 916, 917, 996, 997],
    [720, 721, 722, 723, 724, 725, 726, 727, 728, 729, 782, 783, 926, 927, 968, 969],
    [730, 731, 732, 733, 734, 735, 736, 737, 738, 739, 792, 793, 936, 937, 978, 979],
    [740, 741, 742, 743, 744, 745, 746, 747, 748, 749, 784, 785, 946, 947, 788, 789],
    [750, 751, 752, 753, 754, 755, 756, 757, 758, 759, 794, 795, 956, 957, 798, 799],
    [760, 761, 762, 763, 764, 765, 766, 767, 768, 769, 786, 787, 966, 967, 988, 989],
    [770, 771, 772, 773, 774, 775, 776, 777, 778, 779, 796, 797, 976, 977, 998, 999] ]

/-- The contents of `ROM_DEC`: 64 rows of 16 entries, row `n` holding `ROM_DEC[16 n]` onward (R40, R42). -/
def romDecTable : List (List Nat) := romDecRows0 ++ romDecRows1 ++ romDecRows2 ++ romDecRows3

/-- Table DEC has 64 rows. -/
theorem romDecTable_rows : romDecTable.length = 64 := by decide

/-- Every row of Table DEC has 16 entries, so that `ROM_DEC` has 1024 (R40). -/
theorem romDecTable_row_length : ∀ row ∈ romDecTable, row.length = 16 := by decide

/-! ## Reads -/

/-- A read of `ROM_ENC`: one whole entry; none at an index above 999, where there is no entry (R40, R46, U9). -/
def romEnc (index : Nat) : Option Declet :=
  match romEncTable[index / 10]? with
  | some row => (row[index % 10]?).map (BitVec.ofNat 10)
  | none => none

/-- The row of Table DEC that holds the entry of a code. -/
def romDecRow (code : Declet) : List Nat :=
  romDecTable[code.toNat / 16]'(by rw [romDecTable_rows]; have := code.isLt; omega)

/-- The row of a code is a row of Table DEC, so it has 16 entries. -/
theorem romDecRow_length (code : Declet) : (romDecRow code).length = 16 :=
  romDecTable_row_length _ (List.getElem_mem _)

/-- A read of `ROM_DEC`, defined on every code (R40, R46). -/
def romDec (code : Declet) : Declet :=
  BitVec.ofNat 10 ((romDecRow code)[code.toNat % 16]'(by rw [romDecRow_length]; omega))

/-- `decode(c)` as a number (40_codec.md R85). -/
def valueOf (code : Declet) : Nat := (romDec code).toNat

/-! ## The published tables (40_codec.md) -/

/-- Ten code bits `p q r s t u v w x y`, `p` most significant (R80). -/
def ofBits (p q r s t u v w x y : Bool) : Declet :=
  BitVec.ofBool p ++ BitVec.ofBool q ++ BitVec.ofBool r ++ BitVec.ofBool s ++ BitVec.ofBool t ++
    BitVec.ofBool u ++ BitVec.ofBool v ++ BitVec.ofBool w ++ BitVec.ofBool x ++ BitVec.ofBool y

/-- `dpd_encode(v)`, the encoding table of R83, by the digits of R81. -/
def dpdEncode (value : Nat) : Declet :=
  let d2 := value / 100
  let d1 := value / 10 % 10
  let d0 := value % 10
  let a := d2.testBit 3; let b := d2.testBit 2; let c := d2.testBit 1; let d := d2.testBit 0
  let e := d1.testBit 3; let f := d1.testBit 2; let g := d1.testBit 1; let h := d1.testBit 0
  let i := d0.testBit 3; let j := d0.testBit 2; let k := d0.testBit 1; let m := d0.testBit 0
  match a, e, i with
  | false, false, false => ofBits b c d f g h false j k m
  | false, false, true => ofBits b c d f g h true false false m
  | false, true, false => ofBits b c d j k h true false true m
  | true, false, false => ofBits j k d f g h true true false m
  | true, true, false => ofBits j k d false false h true true true m
  | true, false, true => ofBits f g d false true h true true true m
  | false, true, true => ofBits b c d true false h true true true m
  | true, true, true => ofBits false false d true true h true true true m

/-- A small digit `0 x y z` (R81, R84). -/
def smallDigit (x y z : Bool) : Nat := 4 * x.toNat + 2 * y.toNat + z.toNat

/-- A large digit `1 0 0 z` (R81, R84). -/
def largeDigit (z : Bool) : Nat := 8 + z.toNat

/-- `dpd_decode(c)`, the decoding table of R84, by the bit names of R80. -/
def dpdDecode (code : Declet) : Nat :=
  let p := code.getLsbD 9; let q := code.getLsbD 8; let r := code.getLsbD 7; let s := code.getLsbD 6
  let t := code.getLsbD 5; let u := code.getLsbD 4; let v := code.getLsbD 3; let w := code.getLsbD 2
  let x := code.getLsbD 1; let y := code.getLsbD 0
  let digits : Nat × Nat × Nat :=
    match v, w, x, s, t with
    | false, _, _, _, _ => (smallDigit p q r, smallDigit s t u, smallDigit w x y)
    | true, false, false, _, _ => (smallDigit p q r, smallDigit s t u, largeDigit y)
    | true, false, true, _, _ => (smallDigit p q r, largeDigit u, smallDigit s t y)
    | true, true, false, _, _ => (largeDigit r, smallDigit s t u, smallDigit p q y)
    | true, true, true, false, false => (largeDigit r, largeDigit u, smallDigit p q y)
    | true, true, true, false, true => (largeDigit r, smallDigit p q u, largeDigit y)
    | true, true, true, true, false => (smallDigit p q r, largeDigit u, largeDigit y)
    | true, true, true, true, true => (largeDigit r, largeDigit u, largeDigit y)
  100 * digits.1 + 10 * digits.2.1 + digits.2.2

/-- A code is canonical when re-encoding its value gives it back (41_normalizer.md R100). -/
def isCanonical (code : Declet) : Bool := decide (romEnc (valueOf code) = some code)

end Sys2Proof.Machine
end

