-- ==== Sys2Proof/Machine/Flags.lean ====
section
/-! DEFINITION. The carry and borrow of the arithmetic, packed in bit 10 of RESULT (10_state.md R27, R28;
42_arithmetic.md R120), and the narrowing of an exact sum or difference to a carry-tagged code. -/

namespace Sys2Proof.Machine

/-- `zext_32(code)` (00_scope.md R12). -/
def plainResult (code : Declet) : Word := code.setWidth 32

/-- `zext_32(f ++ code)` (R120). -/
def taggedResult (flag : Bool) (code : Declet) : Word := (BitVec.ofBool flag ++ code).setWidth 32

/-- The result of `encode(v)` under a flag; `none` where ROM_ENC has no entry (R43). -/
def encodeTagged (flag : Bool) (value : Nat) : Option Response :=
  (romEnc value).map fun code => .ok (taggedResult flag code)

/-- The result of an exact sum: carry exactly when it reaches 1000 (R122, R124). -/
def sumResponse (sum : Nat) : Option Response :=
  if sum < Config.base then encodeTagged false sum else encodeTagged true (sum - Config.base)

/-- The result of an exact difference: borrow exactly when it is negative (R123, R125). -/
def differenceResponse (difference : Int) : Option Response :=
  if 0 ≤ difference then encodeTagged false difference.toNat
  else encodeTagged true (difference + Config.base).toNat

end Sys2Proof.Machine
end

