-- ==== Sys2Proof/Machine/State.lean ====
section
/-! DEFINITION. The state of the DDU as plain data (10_state.md R23 to R26, R30 to R32), its state after reset, and the
reasons a step can stop. -/

namespace Sys2Proof.Machine

/-- Why the machine stops. None of these is a fault status of the DDU, which completes its command (R152). -/
inductive Fault
  /-- Raised by a host read of RESULT or STATUS while RSP_VALID = 0 (10_state.md R26, R184). Safe: the machine stops. -/
  | readNotValid
  /-- Raised by a host read of RESULT when the last response faulted and RESULT holds no value (R26, R152). Safe. -/
  | readNoResult
  /-- Raised by a host read of a reserved STATUS code, 0x5 to 0xF (93_implementation_defined.md U8); no run reaches it.
  Safe. -/
  | statusReserved
  /-- Raised by an operation that reads ROM_ENC where it has no entry (20_memory.md R43, U9); no command does. Safe. -/
  | romEncNoEntry
  deriving DecidableEq, Repr

/-- Why the machine gives a command no meaning. -/
inductive Refusal
  /-- Raised by an arm of `exec` whose instruction has no meaning yet; every instruction has one. Safe. -/
  | notModelled (mnemonic : String)
  deriving DecidableEq, Repr

/-- The phase of the DDU (R25). -/
inductive Phase
  /-- Entered by reset: ready, no response. -/
  | empty
  /-- A command was accepted: `cmd` is the word sampled at acceptance (R23, R50), `left` how many edges still pass
  before the edge at which the response is written (R25, R187; log entry 5). -/
  | busy (cmd : Word) (left : Nat)
  /-- The response was written: ready, with a response. -/
  | full
  deriving DecidableEq, Repr

/-- The response latch (R24). A field without a value is the spec's own state (R26, R30, R32; log entry 4). -/
structure Latch where
  /-- `RSP_VALID`: the other two hold the response of the most recently accepted command. -/
  rspValid : Bool
  /-- `RESULT`, or no value. -/
  result : Option Word
  /-- `STATUS`, or no value. -/
  status : Option StatusCode
  deriving DecidableEq, Repr

/-- What a host's read of a port has returned (R26; log entry 8). -/
inductive PortRead
  | result (value : Word)
  | status (value : StatusCode)
  deriving DecidableEq, Repr

/-- What the world outside does at one rising edge of CLK: the input ports of R23, the host's reads (R26) and the end
of a table load (70_reset_and_hazards.md R182). Log entries 1 and 9. -/
structure EdgeInput where
  /-- `RST`. -/
  rst : Bool
  /-- `REQ`. -/
  req : Bool
  /-- `CMD`. -/
  cmd : Word
  /-- The host reads `RESULT`. -/
  readResult : Bool
  /-- The host reads `STATUS`. -/
  readStatus : Bool
  /-- The tables of a loading implementation hold their contents from this edge on. -/
  tablesLoaded : Bool
  deriving DecidableEq, Repr

/-- The machine. `RDY` is computed from `phase` and `tablesReady` (`State.rdy` in Machine/Ops.lean). -/
structure State where
  /-- EMPTY, BUSY or FULL, with the command in flight (R25). -/
  phase : Phase
  /-- RSP_VALID, RESULT, STATUS (R24). -/
  latch : Latch
  /-- The ROMs hold their contents (R182). -/
  tablesReady : Bool
  /-- Every faulting response of the run, oldest first, never cleared (60_exceptions.md R152, D19). -/
  faultRecord : List Cause
  /-- The model's own: what happens at the coming edges, the next one first (log entry 1). -/
  inputs : List EdgeInput
  /-- The model's own: what the host's reads have returned, oldest first (log entry 8). -/
  observed : List PortRead
  deriving DecidableEq, Repr

/-- The latch of R32: RSP_VALID = 0, RESULT and STATUS hold no value. -/
def latchAfterReset : Latch := { rspValid := false, result := none, status := none }

/-- The machine right after reset (R32, R180); the ROMs are constant from power-up (R182, D17). -/
def State.reset : State :=
  { phase := .empty
    latch := latchAfterReset
    tablesReady := true
    faultRecord := []
    inputs := []
    observed := [] }

end Sys2Proof.Machine
end

