-- ==== Sys2Proof/Machine/Ops.lean ====
section
/-! DEFINITION. The named operations on the state: the output ports, the host's reads, completion and its one shared
fault operation, reset, acceptance and the wait of a command in flight (10_state.md, 60_exceptions.md,
70_reset_and_hazards.md). -/

namespace Sys2Proof.Machine

/-- An edge at which nothing is driven and nothing is read. -/
def quietInput : EdgeInput :=
  { rst := false, req := false, cmd := 0#32, readResult := false, readStatus := false, tablesLoaded := false }

/-! ## Output ports (R23, R25) -/

/-- A command is in flight. -/
def phaseBusy : Phase → Bool
  | .empty => false
  | .busy _ _ => true
  | .full => false

/-- `RDY`: 1 in EMPTY and FULL, 0 in BUSY (R25), and 0 until the tables hold their contents (R182). -/
def State.rdy (s : State) : Bool := !phaseBusy s.phase && s.tablesReady

/-- The port `RSP_VALID` (R23, R24). -/
def State.rspValid (s : State) : Bool := s.latch.rspValid

/-- A read of `STATUS`: a fault while RSP_VALID = 0 (R26), and on a reserved code (U8). -/
def State.readStatus (s : State) : Except Fault StatusCode :=
  match s.latch.rspValid, s.latch.status with
  | true, some c => if c.toNat ≤ statusMax then .ok c else .error .statusReserved
  | _, _ => .error .readNotValid

/-- A read of `RESULT`: a fault while RSP_VALID = 0, and when STATUS ≠ 0 (R26, R152). -/
def State.readResult (s : State) : Except Fault Word :=
  match s.latch.rspValid, s.latch.status, s.latch.result with
  | true, some c, some r => if c = statusOk then .ok r else .error .readNoResult
  | true, some _, none => .error .readNoResult
  | _, _, _ => .error .readNotValid

/-! ## What happens at an edge -/

/-- What happens at the coming edge; nothing once the list has run out (log entry 1). -/
def State.input (s : State) : EdgeInput := s.inputs.headD quietInput

/-- The host's read, if it makes one, of RESULT. -/
def State.sampleResult (s : State) : Except Fault State :=
  match s.input.readResult, s.readResult with
  | false, _ => .ok s
  | true, .ok r => .ok { s with observed := s.observed ++ [.result r] }
  | true, .error f => .error f

/-- The host's read, if it makes one, of STATUS. -/
def State.sampleStatus (s : State) : Except Fault State :=
  match s.input.readStatus, s.readStatus with
  | false, _ => .ok s
  | true, .ok c => .ok { s with observed := s.observed ++ [.status c] }
  | true, .error f => .error f

/-- The host's reads at the coming edge: they see the ports as they stand before it, RESULT first
(R23, R26; log entry 2). -/
def State.hostReads (s : State) : Except Fault State :=
  match s.sampleResult with
  | .ok s' => s'.sampleStatus
  | .error f => .error f

/-- The inputs of the coming edge are used up, and a table load that ends at it is recorded (R182; log entry 9). -/
def State.sampled (s : State) : State :=
  { s with inputs := s.inputs.tail, tablesReady := s.tablesReady || s.input.tablesLoaded }

/-- A command is accepted: its word is sampled, BUSY is entered with `RSP_VALID` = 0, and `LATENCY` starts to run;
RESULT and STATUS keep their values behind it (R23 to R25, R50; log entries 3 and 5). -/
def State.accept (cmd : Word) (s : State) : State :=
  { s with
    phase := .busy cmd (Config.latencyBeyondOne (opField cmd))
    latch := { s.latch with rspValid := false } }

/-- One more edge of `LATENCY` has passed (R25). -/
def State.wait (cmd : Word) (left : Nat) (s : State) : State := { s with phase := .busy cmd left }

/-- The command in flight completes with a result: `RESULT <- r`, `STATUS <- OK`, `RSP_VALID <- 1`, phase FULL
(R24, R25). -/
def State.complete (r : Word) (s : State) : State :=
  { s with
    phase := .full
    latch := { rspValid := true, result := some r, status := some statusOk } }

/-- `raise Fault(cause)`: the one way a command faults. It completes like any other with `STATUS <- cause`, RESULT
holds no value, and the faulting response is entered in the run's record (00_scope.md R12, 60_exceptions.md R152). -/
def State.raiseFault (cause : Cause) (s : State) : State :=
  { s with
    phase := .full
    latch := { rspValid := true, result := none, status := some (causeCode cause) }
    faultRecord := s.faultRecord ++ [cause] }

/-- An edge with RST = 1: EMPTY, the latch of R32, a command in flight discarded; the ROMs are not touched
(R180, R181), nor the run's fault record (D19; log entry 7). -/
def State.resetEdge (s : State) : State := { s with phase := .empty, latch := latchAfterReset }

/-- The response of a command, delivered to the latch; `none` is a read of ROM_ENC where it has no entry (U9). -/
def deliver (response : Option Response) (s : State) : Host.Outcome State Fault Refusal :=
  match response with
  | some (.ok r) => .next (s.complete r)
  | some (.fault c) => .next (s.raiseFault c)
  | none => .fault .romEncNoEntry

/-- The command `cmd` in flight with its response due at the coming edge, at which nothing else happens: what an
acceptance and all but one of its edges of `LATENCY` leave (R25; log entry 10). -/
def State.placeCommand (cmd : Word) (s : State) : State :=
  { s with
    phase := .busy cmd 0
    latch := { s.latch with rspValid := false }
    inputs := quietInput :: s.inputs }

end Sys2Proof.Machine
end

