-- ==== Sys2Proof/Machine/Arithmetic.lean ====
section
/-! DEFINITION. The declet arithmetic: INC, DEC, ADD, SUB and CMP, on exact integers narrowed once
(42_arithmetic.md; 00_scope.md R12). -/

namespace Sys2Proof.Machine

/-- The response of INC (R122): DOMAIN_K above 1000, else the sum of the value and `k`. -/
def incResponse (code k : Declet) : Option Response :=
  if Config.kMax < k.toNat then some (.fault .domainK) else sumResponse (valueOf code + k.toNat)

/-- INC completes (R122). -/
def execInc (code k : Declet) (s : State) : Host.Outcome State Fault Refusal :=
  deliver (incResponse code k) s

/-- The response of DEC (R123): DOMAIN_K above 1000, else the value less `k`. -/
def decResponse (code k : Declet) : Option Response :=
  if Config.kMax < k.toNat then some (.fault .domainK)
  else differenceResponse ((valueOf code : Int) - (k.toNat : Int))

/-- DEC completes (R123). -/
def execDec (code k : Declet) (s : State) : Host.Outcome State Fault Refusal :=
  deliver (decResponse code k) s

/-- The response of ADD (R124): the sum of both values and the carry-in. -/
def addResponse (a b : Declet) (ci : Bool) : Option Response :=
  sumResponse (valueOf a + valueOf b + ci.toNat)

/-- ADD completes (R124). -/
def execAdd (a b : Declet) (ci : Bool) (s : State) : Host.Outcome State Fault Refusal :=
  deliver (addResponse a b ci) s

/-- The response of SUB (R125): the first value less the second and the borrow-in. -/
def subResponse (a b : Declet) (bi : Bool) : Option Response :=
  differenceResponse ((valueOf a : Int) - (valueOf b : Int) - (bi.toNat : Int))

/-- SUB completes (R125). -/
def execSub (a b : Declet) (bi : Bool) (s : State) : Host.Outcome State Fault Refusal :=
  deliver (subResponse a b bi) s

/-- The response of CMP (R126): the signed difference of the values in 32-bit two's complement. -/
def cmpResponse (a b : Declet) : Option Response :=
  some (.ok (BitVec.ofInt 32 ((valueOf a : Int) - (valueOf b : Int))))

/-- CMP completes (R126). -/
def execCmp (a b : Declet) (s : State) : Host.Outcome State Fault Refusal :=
  deliver (cmpResponse a b) s

end Sys2Proof.Machine
end

