-- ==== Sys2Proof/Machine/Codec.lean ====
section
/-! DEFINITION. The declet codec: INT2DPD and DPD2INT (40_codec.md). -/

namespace Sys2Proof.Machine

/-- The response of INT2DPD (R87): DOMAIN_VALUE above 999, else the entry of ROM_ENC. -/
def int2dpdResponse (value : Declet) : Option Response :=
  if Config.valueMax < value.toNat then some (.fault .domainValue)
  else (romEnc value.toNat).map fun code => .ok (plainResult code)

/-- INT2DPD completes (R87). -/
def execInt2dpd (value : Declet) (s : State) : Host.Outcome State Fault Refusal :=
  deliver (int2dpdResponse value) s

/-- The response of DPD2INT (R88): the entry of ROM_DEC, for any code. -/
def dpd2intResponse (code : Declet) : Option Response := some (.ok (plainResult (romDec code)))

/-- DPD2INT completes (R88). -/
def execDpd2int (code : Declet) (s : State) : Host.Outcome State Fault Refusal :=
  deliver (dpd2intResponse code) s

end Sys2Proof.Machine
end

