-- ==== Sys2Proof/Machine/Normalizer.lean ====
section
/-! DEFINITION. The declet normalizer: CANON and ISCANON (41_normalizer.md). -/

namespace Sys2Proof.Machine

/-- The response of CANON (R101): the code of the value of the operand. -/
def canonResponse (code : Declet) : Option Response :=
  (romEnc (valueOf code)).map fun c => .ok (plainResult c)

/-- CANON completes (R101). -/
def execCanon (code : Declet) (s : State) : Host.Outcome State Fault Refusal :=
  deliver (canonResponse code) s

/-- The bit test of R102: a band-selector bit is set and all five bits of the mask 0x06E are (R103, C1). -/
def nonCanonicalBits (code : Declet) : Bool :=
  decide (code &&& 0x300#10 ≠ 0#10) && decide (code &&& 0x06E#10 = 0x06E#10)

/-- The response of ISCANON (R102): 1 for a canonical code, 0 for a non-canonical one. -/
def iscanonResponse (code : Declet) : Option Response :=
  some (.ok (if nonCanonicalBits code then 0#32 else 1#32))

/-- ISCANON completes (R102). -/
def execIscanon (code : Declet) (s : State) : Host.Outcome State Fault Refusal :=
  deliver (iscanonResponse code) s

end Sys2Proof.Machine
end

