-- ==== Sys2Proof/Machine/Dispatch.lean ====
section
/-! DEFINITION. One arm per instruction: the edge at which it completes (30_encoding.md R67). -/

namespace Sys2Proof.Machine

open Sys2Proof

/-- What an instruction does to the state at the edge at which its response is written (R24, R67). -/
def exec (i : Instr) (s : State) : Host.Outcome State Fault Refusal :=
  match i with
  -- declet codec (40_codec.md)
  | .int2dpd value => Sys2Proof.Machine.execInt2dpd value s
  | .dpd2int code => Sys2Proof.Machine.execDpd2int code s
  -- declet normalizer (41_normalizer.md)
  | .canon code => Sys2Proof.Machine.execCanon code s
  | .iscanon code => Sys2Proof.Machine.execIscanon code s
  -- declet arithmetic (42_arithmetic.md)
  | .inc code k => Sys2Proof.Machine.execInc code k s
  | .dec code k => Sys2Proof.Machine.execDec code k s
  | .add a b ci => Sys2Proof.Machine.execAdd a b ci s
  | .sub a b bi => Sys2Proof.Machine.execSub a b bi s
  | .cmp a b => Sys2Proof.Machine.execCmp a b s

end Sys2Proof.Machine
end

