-- ==== Sys2Proof/Machine/Edge.lean ====
section
/-! DEFINITION. One rising edge of CLK (10_state.md R23, R25; 70_reset_and_hazards.md R180, R183). -/

namespace Sys2Proof.Machine

/-- The command in flight completes: a legal command is executed, any other word faults by cause (R65 to R67). -/
def completeCommand (cmd : Word) (s : State) : Host.Outcome State Fault Refusal :=
  match decode cmd with
  | .ok i => exec i s
  | .error cause => .next (s.raiseFault cause)

/-- What the DDU does at an edge with the inputs `p`, `ready` being RDY before it: reset comes first (R180), a command
in flight waits or completes whatever REQ and CMD are (R25, R183), and otherwise an offered command is accepted when
`ready` (R23, R182). -/
def edgeAction (p : EdgeInput) (ready : Bool) (s : State) : Host.Outcome State Fault Refusal :=
  match p.rst, s.phase, p.req && ready with
  | true, _, _ => .next s.resetEdge
  | false, .busy cmd 0, _ => completeCommand cmd s
  | false, .busy cmd (left + 1), _ => .next (s.wait cmd left)
  | false, _, true => .next (s.accept p.cmd)
  | false, _, false => .next s

/-- One rising edge: the host's reads see the ports as they stand before it; then the DDU acts (log entry 2). -/
def clockEdge (s : State) : Host.Outcome State Fault Refusal :=
  match s.hostReads with
  | .ok s' => edgeAction s.input s.rdy s'.sampled
  | .error f => .fault f

end Sys2Proof.Machine
end

