-- ==== Sys2Proof/Machine/Step.lean ====
section
/-! DEFINITION. The step of the machine, one rising edge of CLK (10_state.md R23), and the placing of a command word so
that the next step runs it. -/

namespace Sys2Proof.Machine

/-- One step: one rising edge of CLK. -/
def step (s : State) : Host.Outcome State Fault Refusal := clockEdge s

/-- `s` with the command of an opcode-table word in flight and due at the next edge (log entry 10). -/
def State.withFetchWord (s : State) (nbits w : Nat) : State := s.placeCommand (tableWord nbits w)

end Sys2Proof.Machine
end

