-- ==== Sys2Proof/Machine/Assembler.lean ====
section
/-! DEFINITION. The assembler (30_encoding.md R69, R70): a line of text to a statement with unbounded numbers, pseudo-
instructions to core ones, an operand that does not fit its field an error, and the word by R60. Log entry 11. -/

namespace Sys2Proof.Machine

/-- Why a line does not assemble. -/
inductive AsmError
  /-- No mnemonic of R69 or R70 with this number of operands. -/
  | unknownStatement
  /-- An operand is neither a decimal nor a 0x hexadecimal number (R69). -/
  | badNumber
  /-- An operand does not fit its field: above 1023, or a carry above 1 (R69). -/
  | operandTooWide
  deriving DecidableEq, Repr

/-- A statement of R69, or a pseudo-instruction of R70 (the last six). -/
inductive AsmStatement
  | int2dpd (value : Nat)
  | dpd2int (code : Nat)
  | canon (code : Nat)
  | iscanon (code : Nat)
  | inc (code k : Nat)
  | dec (code k : Nat)
  | add (a b ci : Nat)
  | sub (a b bi : Nat)
  | cmp (a b : Nat)
  /-- `INC c` -/
  | incOne (code : Nat)
  /-- `DEC c` -/
  | decOne (code : Nat)
  /-- `ADD a, b` -/
  | addNoCarry (a b : Nat)
  /-- `SUB a, b` -/
  | subNoBorrow (a b : Nat)
  /-- `ENC v` -/
  | enc (value : Nat)
  /-- `DECODE c` -/
  | decodeCode (code : Nat)
  deriving DecidableEq, Repr

/-- The expansions of R70; a core statement is its own. -/
def expandPseudo : AsmStatement → AsmStatement
  | .incOne c => .inc c 1
  | .decOne c => .dec c 1
  | .addNoCarry a b => .add a b 0
  | .subNoBorrow a b => .sub a b 0
  | .enc v => .int2dpd v
  | .decodeCode c => .dpd2int c
  | .int2dpd v => .int2dpd v
  | .dpd2int c => .dpd2int c
  | .canon c => .canon c
  | .iscanon c => .iscanon c
  | .inc c k => .inc c k
  | .dec c k => .dec c k
  | .add a b ci => .add a b ci
  | .sub a b bi => .sub a b bi
  | .cmp a b => .cmp a b

/-- A number in a 10-bit operand field, if it fits (R69). -/
def fitDeclet (n : Nat) : Except AsmError Declet :=
  if n ≤ 1023 then .ok (BitVec.ofNat 10 n) else .error .operandTooWide

/-- A number in the one-bit field `CI`, if it fits (R69). -/
def fitCarry (n : Nat) : Except AsmError Bool :=
  if n ≤ 1 then .ok (decide (n = 1)) else .error .operandTooWide

/-- One declet operand. -/
def fitOne (make : Declet → Instr) (a : Nat) : Except AsmError Instr :=
  match fitDeclet a with
  | .ok x => .ok (make x)
  | .error e => .error e

/-- Two declet operands. -/
def fitTwo (make : Declet → Declet → Instr) (a b : Nat) : Except AsmError Instr :=
  match fitDeclet a, fitDeclet b with
  | .ok x, .ok y => .ok (make x y)
  | _, _ => .error .operandTooWide

/-- Two declet operands and a carry. -/
def fitThree (make : Declet → Declet → Bool → Instr) (a b c : Nat) : Except AsmError Instr :=
  match fitDeclet a, fitDeclet b, fitCarry c with
  | .ok x, .ok y, .ok z => .ok (make x y z)
  | _, _, _ => .error .operandTooWide

/-- The instruction of an expanded statement; a pseudo-instruction is not expanded and has none. -/
def fitStatement : AsmStatement → Except AsmError Instr
  | .int2dpd v => fitOne .int2dpd v
  | .dpd2int c => fitOne .dpd2int c
  | .canon c => fitOne .canon c
  | .iscanon c => fitOne .iscanon c
  | .inc c k => fitTwo .inc c k
  | .dec c k => fitTwo .dec c k
  | .add a b ci => fitThree .add a b ci
  | .sub a b bi => fitThree .sub a b bi
  | .cmp a b => fitTwo .cmp a b
  | .incOne _ => .error .unknownStatement
  | .decOne _ => .error .unknownStatement
  | .addNoCarry _ _ => .error .unknownStatement
  | .subNoBorrow _ _ => .error .unknownStatement
  | .enc _ => .error .unknownStatement
  | .decodeCode _ => .error .unknownStatement

/-- A statement assembled: expanded, fitted and encoded by R60. -/
def assemble (st : AsmStatement) : Except AsmError Word :=
  match fitStatement (expandPseudo st) with
  | .ok i => .ok (encode i)
  | .error e => .error e

/-! ## From text -/

/-- Space or tab. -/
def isBlank (c : Char) : Bool := c == ' ' || c == '\t'

/-- Text without blanks at either end. -/
def trimBlanks (cs : List Char) : List Char :=
  ((cs.dropWhile isBlank).reverse.dropWhile isBlank).reverse

/-- The parts of a text between its commas. -/
def splitCommas : List Char → List (List Char)
  | [] => [[]]
  | c :: cs =>
    match c == ',', splitCommas cs with
    | true, parts => [] :: parts
    | false, part :: parts => (c :: part) :: parts
    | false, [] => [[c]]

/-- The value of a digit in a radix of at most 16. -/
def digitValue (radix : Nat) (c : Char) : Option Nat :=
  let n := c.toNat
  let v := if 48 ≤ n ∧ n ≤ 57 then n - 48 else if 65 ≤ n ∧ n ≤ 70 then n - 55
    else if 97 ≤ n ∧ n ≤ 102 then n - 87 else 16
  if v < radix then some v else none

/-- The number a text of digits stands for, after the digits read so far. -/
def readDigits (radix acc : Nat) : List Char → Option Nat
  | [] => some acc
  | c :: cs =>
    match digitValue radix c with
    | some v => readDigits radix (radix * acc + v) cs
    | none => none

/-- A number of R69: decimal, or hexadecimal after `0x`. -/
def readNumber : List Char → Option Nat
  | [] => none
  | ['0', 'x'] => none
  | '0' :: 'x' :: cs => readDigits 16 0 cs
  | c :: cs => readDigits 10 0 (c :: cs)

/-- Every operand of a comma-separated list. -/
def readOperands : List (List Char) → Option (List Nat)
  | [] => some []
  | part :: parts =>
    match readNumber (trimBlanks part), readOperands parts with
    | some n, some ns => some (n :: ns)
    | _, _ => none

/-- The statement of a mnemonic and its operands (R69, R70). -/
def statementOf (mnemonic : List Char) (operands : List Nat) : Option AsmStatement :=
  match mnemonic, operands with
  | ['I', 'N', 'T', '2', 'D', 'P', 'D'], [v] => some (.int2dpd v)
  | ['D', 'P', 'D', '2', 'I', 'N', 'T'], [c] => some (.dpd2int c)
  | ['C', 'A', 'N', 'O', 'N'], [c] => some (.canon c)
  | ['I', 'S', 'C', 'A', 'N', 'O', 'N'], [c] => some (.iscanon c)
  | ['I', 'N', 'C'], [c, k] => some (.inc c k)
  | ['D', 'E', 'C'], [c, k] => some (.dec c k)
  | ['A', 'D', 'D'], [a, b, ci] => some (.add a b ci)
  | ['S', 'U', 'B'], [a, b, bi] => some (.sub a b bi)
  | ['C', 'M', 'P'], [a, b] => some (.cmp a b)
  | ['I', 'N', 'C'], [c] => some (.incOne c)
  | ['D', 'E', 'C'], [c] => some (.decOne c)
  | ['A', 'D', 'D'], [a, b] => some (.addNoCarry a b)
  | ['S', 'U', 'B'], [a, b] => some (.subNoBorrow a b)
  | ['E', 'N', 'C'], [v] => some (.enc v)
  | ['D', 'E', 'C', 'O', 'D', 'E'], [c] => some (.decodeCode c)
  | _, _ => none

/-- A line without its comment, from `;` on, and without blanks around it (R69). -/
def lineBody (line : List Char) : List Char := trimBlanks (line.takeWhile (· != ';'))

/-- A line of R69: no command when it is blank or only a comment, else the word of its one command. -/
def assembleLine (line : List Char) : Except AsmError (Option Word) :=
  match lineBody line with
  | [] => .ok none
  | body =>
    match readOperands (splitCommas (body.dropWhile fun c => !isBlank c)) with
    | none => .error .badNumber
    | some operands =>
      match statementOf (body.takeWhile fun c => !isBlank c) operands with
      | none => .error .unknownStatement
      | some st =>
        match assemble st with
        | .ok w => .ok (some w)
        | .error e => .error e

end Sys2Proof.Machine
end

