-- ==== Sys2Proof/Machine/BusAdapter.lean ====
section
/-! DEFINITION. A bus adapter that carries command and result words as bytes (20_memory.md R44): the byte-lane mapping
is the open parameter `HOST_BYTE_ORDER` (00_scope.md R10; log entry 6), and no rule of the DDU reads it. -/

namespace Sys2Proof.Machine

/-- Byte `i` of a word, byte 0 least significant. -/
def byteOf (w : Word) (i : Fin 4) : Byte := w.extractLsb' (8 * i.val) 8

/-- The bytes on the four lanes of a bus: lane `l` carries byte `order l`. -/
def busLanes (order : Equiv.Perm (Fin 4)) (w : Word) : Vector Byte 4 :=
  Vector.ofFn fun lane => byteOf w (order lane)

/-- The word that four lanes carry. -/
def busWord (order : Equiv.Perm (Fin 4)) (lanes : Vector Byte 4) : Word :=
  (lanes.get (order.symm 3)).setWidth 32 <<< 24 ||| (lanes.get (order.symm 2)).setWidth 32 <<< 16 |||
    (lanes.get (order.symm 1)).setWidth 32 <<< 8 ||| (lanes.get (order.symm 0)).setWidth 32

/-- The lanes of this machine's bus adapter. -/
def hostLanes (w : Word) : Vector Byte 4 := busLanes Config.hostByteOrder w

/-- The word this machine's bus adapter makes of its lanes. -/
def hostWord (lanes : Vector Byte 4) : Word := busWord Config.hostByteOrder lanes

end Sys2Proof.Machine
end

