-- ==== Sys2Proof/Machine/Execute.lean ====
section
/-! DEFINITION. The transaction view (10_state.md R30): `execute`, the pure function of a command word
(30_encoding.md R67), and the latch a host sees, `Option (RESULT × STATUS)`. -/

namespace Sys2Proof.Machine

/-- The response of an instruction, a function of its operands alone (R20); `none` is a read of ROM_ENC where it has
no entry, which no instruction makes (R43). -/
def respond : Instr → Option Response
  | .int2dpd value => int2dpdResponse value
  | .dpd2int code => dpd2intResponse code
  | .canon code => canonResponse code
  | .iscanon code => iscanonResponse code
  | .inc code k => incResponse code k
  | .dec code k => decResponse code k
  | .add a b ci => addResponse a b ci
  | .sub a b bi => subResponse a b bi
  | .cmp a b => cmpResponse a b

/-- `execute(w)` (R67), on all 2^32 words. -/
def execute (w : Word) : Option Response :=
  match decode w with
  | .ok i => respond i
  | .error cause => some (.fault cause)

/-- The latch of the transaction view (R30): none while RSP_VALID = 0, else RESULT and STATUS, each as the port holds
it (RESULT has no value after a fault, R152). -/
def State.view (s : State) : Option (Option Word × Option StatusCode) :=
  match s.latch.rspValid with
  | true => some (s.latch.result, s.latch.status)
  | false => none

end Sys2Proof.Machine
end

