-- ==== Sys2Proof/Machine/HostChain.lean ====
section
/-! DEFINITION. Numbers of many declets, chained by the host over single commands (42_arithmetic.md R128,
70_reset_and_hazards.md R185): the DDU keeps no carry, so the host copies RESULT[10] into the next CI. -/

namespace Sys2Proof.Machine

/-- The number a list of declets stands for, least significant declet first (R128). -/
def coefficient : List Declet → Nat
  | [] => 0
  | d :: ds => valueOf d + Config.base * coefficient ds

/-- RESULT of one issued command; none when it faulted (R152). -/
def issue (w : Word) : Option Word := (execute w).bind responseResult

/-- The addition loop of R128 over the pairs `(x[i], y[i])`, least significant first: the declets of the sum and the
last carry. -/
def addChain : List (Declet × Declet) → Bool → Option (List Declet × Bool)
  | [], carry => some ([], carry)
  | (x, y) :: rest, carry =>
    match issue (encode (.add x y carry)) with
    | none => none
    | some r =>
      match addChain rest (r.getLsbD Config.carryBit) with
      | none => none
      | some (digits, last) => some (r.setWidth 10 :: digits, last)

/-- The subtraction loop of R128, with SUB and the borrow. -/
def subChain : List (Declet × Declet) → Bool → Option (List Declet × Bool)
  | [], borrow => some ([], borrow)
  | (x, y) :: rest, borrow =>
    match issue (encode (.sub x y borrow)) with
    | none => none
    | some r =>
      match subChain rest (r.getLsbD Config.carryBit) with
      | none => none
      | some (digits, last) => some (r.setWidth 10 :: digits, last)

/-- The comparison of R128: CMP from the most significant pair down, stopping at the first nonzero result. -/
def compareChain : List (Declet × Declet) → Option Word
  | [] => some 0#32
  | (x, y) :: rest =>
    match issue (encode (.cmp x y)) with
    | none => none
    | some r => if r = 0#32 then compareChain rest else some r

end Sys2Proof.Machine
end

