-- ==== Sys2Proof/Machine/Invariant.lean ====
section
/-! DEFINITION. The invariant of the machine: what every state a run reaches satisfies (10_state.md R24, R25, R32;
60_exceptions.md R150, R152; 70_reset_and_hazards.md R182, R187). -/

namespace Sys2Proof.Machine

/-- `RSP_VALID` is 1 exactly in phase FULL (R25). -/
def State.validExactlyWhenFull (s : State) : Prop := s.latch.rspValid = true ↔ s.phase = .full

/-- The latch holds no response, or a result with STATUS OK, or the code of a cause with no result (R150, R152). -/
def State.latchLegal (s : State) : Prop :=
  (s.latch.rspValid = false ∧ s.latch.result = none ∧ s.latch.status = none) ∨
  (∃ r, s.latch.result = some r ∧ s.latch.status = some statusOk) ∨
  (∃ c, s.latch.result = none ∧ s.latch.status = some (causeCode c))

/-- A command in flight has fewer edges to wait than its `LATENCY` (R25, R187). -/
def State.waitsWithinLatency (s : State) : Prop :=
  match s.phase with
  | .empty => True
  | .busy cmd left => left < Config.latency (opField cmd)
  | .full => True

/-- No command is taken before the tables hold their contents (R182). -/
def State.tablesBeforeCommands (s : State) : Prop := s.tablesReady = true ∨ s.phase = .empty

/-- A faulting response in the latch is the last one of the run's fault record (R152, D19). -/
def State.faultIsRecorded (s : State) : Prop :=
  ∀ c, s.latch.status = some (causeCode c) → s.faultRecord.getLast? = some c

/-- A host has never seen a reserved STATUS (R150, U8). -/
def State.observedLegal (s : State) : Prop :=
  ∀ c, PortRead.status c ∈ s.observed → c.toNat ≤ statusMax

/-- The invariant. -/
def State.Inv (s : State) : Prop :=
  s.validExactlyWhenFull ∧ s.latchLegal ∧ s.waitsWithinLatency ∧ s.tablesBeforeCommands ∧
    s.faultIsRecorded ∧ s.observedLegal

end Sys2Proof.Machine
end

