-- ==== Sys2Proof/Machine/Run.lean ====
section
/-! DEFINITION. Several rising edges in a row, for statements about LATENCY and about reset that is held
(10_state.md R25, 70_reset_and_hazards.md R180). -/

namespace Sys2Proof.Machine

/-- `n` edges, ending at the first that stops. -/
def runEdges : Nat → State → Host.Outcome State Fault Refusal
  | 0, s => .next s
  | n + 1, s =>
    match step s with
    | .next t => runEdges n t
    | .fault f => .fault f
    | .refused r => .refused r

end Sys2Proof.Machine
end

