-- ==== Sys2Proof/Safety.lean ====
section
/-! DEFINITION. What counts as a safe run (60_exceptions.md R152, D19) and the host's duty while it waits
(70_reset_and_hazards.md R183). -/

namespace Sys2Proof.Machine

/-- No faulting response so far: the premise D19 asks of a claim about a run. -/
def State.noFaultingResponse (s : State) : Bool := s.faultRecord.isEmpty

/-- The host's duty of R183 over its coming inputs, from one that is offered while RDY = 0: it keeps REQ and CMD at
the edge after it. -/
def holdsRequest (refused next : EdgeInput) : Bool :=
  !refused.req || (next.req && next.cmd == refused.cmd)

/-- The host does its duty at the coming edge: what it offers while RDY = 0 it goes on offering (R183). R183 says until
an edge with RDY = 1 and names no exception for reset. DESIGN CHOICE, safe (log entry 16): an edge with RST = 1, at which
no command is accepted (R180), ends the duty; and what is offered at the last listed edge counts as dropped, since the
edges after the list are quiet (log entry 1). -/
def State.hostHolds (s : State) : Bool :=
  match s.rdy, s.inputs with
  | true, _ => true
  | false, p :: q :: _ => p.rst || holdsRequest p q
  | false, [p] => p.rst || !p.req
  | false, [] => true

/-- The coming edge leaves the host inside the spec: its reads are answered (R26) and it holds its request (R183). -/
def State.safeEdge (s : State) : Bool :=
  (match s.hostReads with
    | .ok _ => true
    | .error _ => false) && s.hostHolds

end Sys2Proof.Machine
end

