-- ==== Sys2Proof/WellFormed.lean ====
section
/-! DEFINITION. Which commands have admitted operands (30_encoding.md R63). The field widths are in the types of
`Instr`, so this is the only check left: the domains of INT2DPD's value and of the step `k`. -/

namespace Sys2Proof

/-- Every operand lies in the range R63 admits. An instruction that fails this still has a command word
and still runs: it completes with DOMAIN_VALUE or DOMAIN_K (60_exceptions.md R154, R155; log entry 14). -/
def Instr.wellFormed : Instr → Bool
  | .int2dpd value => decide (value.toNat ≤ Config.valueMax)
  | .dpd2int _ => true
  | .canon _ => true
  | .iscanon _ => true
  | .inc _ k => decide (k.toNat ≤ Config.kMax)
  | .dec _ k => decide (k.toNat ≤ Config.kMax)
  | .add _ _ _ => true
  | .sub _ _ _ => true
  | .cmp _ _ => true

end Sys2Proof
end

