-- ==== Sys2Proof/Certificates/Slice0/Obligations.lean ====
section
/-! DEFINITION. The statements for the provers, each from the rules of spec/ its docstring cites. The results are stated
with the published tables `dpdEncode` and `dpdDecode` (40_codec.md R83, R84), while the meanings read the ROM listings. -/

open Sys2Proof Sys2Proof.Machine

/-! ## Encoding and decoding (30_encoding.md) -/

/-- Every instruction is read back from its word, at every value of every operand (R60, R62, R63). -/
def Obligations.DecodeEncodeRoundTrip : Prop := ∀ i : Instr, decode (encode i) = .ok i

/-- A word that decodes is the word of the instruction it decodes to: one meaning per word (R60, R64, R66). -/
def Obligations.EncodeDecodeRoundTrip : Prop := ∀ (w : Word) (i : Instr), decode w = .ok i → encode i = w

/-- R60, R62: the seven fields of a command word, and that they are all of it. -/
def Obligations.CommandWordFields : Prop :=
  (∀ (op : Opcode) (ci : Bool) (b a : Declet),
    opField (commandWord op ci b a) = op ∧ ciField (commandWord op ci b a) = ci ∧
    bField (commandWord op ci b a) = b ∧ aField (commandWord op ci b a) = a ∧
    rsv1Field (commandWord op ci b a) = 0#2 ∧ rsv2Field (commandWord op ci b a) = 0#2 ∧
    rsv3Field (commandWord op ci b a) = 0#3) ∧
  (∀ w : Word, rsv1Field w = 0#2 → rsv2Field w = 0#2 → rsv3Field w = 0#3 →
    commandWord (opField w) (ciField w) (bField w) (aField w) = w)

/-- R64: a word decodes exactly when it selects a row of the opcode map, and no word selects two rows. -/
def Obligations.OpcodeRowSelectsCommand : Prop :=
  (∀ w : Word, (∃ i, decode w = .ok i) ↔ ∃ row ∈ opcodeTable, w &&& row.mask = row.pattern) ∧
  (∀ (w : Word), ∀ row ∈ opcodeTable, ∀ row' ∈ opcodeTable,
    w &&& row.mask = row.pattern → w &&& row'.mask = row'.pattern → row = row')

/-- R153: ILLEGAL_OP exactly for OP 0x0 and 0xA to 0xF, whatever bits 27 to 0 are, and what such a command leaves. -/
def Obligations.IllegalOpForReservedOpcodes : Prop :=
  ∀ w : Word,
    (decode w = .error .illegalOp ↔ opField w = 0x0#4 ∨ 0xA ≤ (opField w).toNat) ∧
    (opField w = 0x0#4 ∨ 0xA ≤ (opField w).toNat → ∀ s : State,
      completeCommand w s = .next { s with
        phase := .full
        latch := { rspValid := true, result := none, status := some 0x1#4 }
        faultRecord := s.faultRecord ++ [.illegalOp] })

/-- R156: for a legal OP, RESERVED_BITS exactly when the word does not match its row, that is when a reserved bit, `B`
of the four one-operand operations, or `CI` of any but ADD and SUB is not zero; and what such a command leaves. -/
def Obligations.ReservedBitsForNonzeroFields : Prop :=
  ∀ w : Word, 0x1 ≤ (opField w).toNat → (opField w).toNat ≤ 0x9 →
    (decode w = .error .reservedBits ↔
      ∃ row ∈ opcodeTable, row.op = opField w ∧ w &&& row.mask ≠ row.pattern) ∧
    (decode w = .error .reservedBits ↔
      rsv3Field w ≠ 0#3 ∨ rsv2Field w ≠ 0#2 ∨ rsv1Field w ≠ 0#2 ∨
      ((opField w).toNat ≤ 0x4 ∧ bField w ≠ 0#10) ∨
      (opField w ≠ 0x7#4 ∧ opField w ≠ 0x8#4 ∧ ciField w = true)) ∧
    (decode w = .error .reservedBits → ∀ s : State,
      completeCommand w s = .next { s with
        phase := .full
        latch := { rspValid := true, result := none, status := some 0x2#4 }
        faultRecord := s.faultRecord ++ [.reservedBits] })

/-- R151: every word completes with the STATUS of the first check that fails, in the order opcode, reserved bits,
domain; the domain checks are those of INT2DPD, INC and DEC (R154, R155), and with none failing STATUS is 0. -/
def Obligations.StatusIsFirstFailingCheck : Prop :=
  ∀ w : Word, ∃ r, execute w = some r ∧ responseStatus r =
    if opField w = 0x0#4 ∨ 0xA ≤ (opField w).toNat then 0x1#4
    else if ∃ row ∈ opcodeTable, row.op = opField w ∧ w &&& row.mask ≠ row.pattern then 0x2#4
    else if opField w = 0x1#4 ∧ 999 < (aField w).toNat then 0x3#4
    else if (opField w = 0x5#4 ∨ opField w = 0x6#4) ∧ 1000 < (bField w).toNat then 0x4#4
    else 0x0#4

/-- One word of each operation decodes to the instruction it stands for: the examples of R87, R88, R101, R102, R122,
R123, R125 and R126, and for ADD, with a carry-in, the second command of program P1 of 95_test_vectors.md. -/
def Obligations.ExampleWordsDecode : Prop :=
  decode 0x100003E6#32 = .ok (.int2dpd 998#10) ∧ decode 0x200003FF#32 = .ok (.dpd2int 0x3FF#10) ∧
  decode 0x300003FE#32 = .ok (.canon 0x3FE#10) ∧ decode 0x400001FF#32 = .ok (.iscanon 0x1FF#10) ∧
  decode 0x500050FE#32 = .ok (.inc 0x0FE#10 5#10) ∧ decode 0x60001000#32 = .ok (.dec 0x000#10 1#10) ∧
  decode 0x712C3256#32 = .ok (.add 0x256#10 0x2C3#10 true) ∧
  decode 0x80005003#32 = .ok (.sub 0x003#10 0x005#10 false) ∧ decode 0x90002005#32 = .ok (.cmp 0x005#10 0x002#10)

/-! ## Memories (20_memory.md) and codec tables (40_codec.md, 41_normalizer.md) -/

/-- R41: the listing of ROM_ENC is the published encoding table, entry by entry; and it has no further entry (R40). -/
def Obligations.RomEncIsEncodingTable : Prop :=
  (∀ v : Nat, v ≤ 999 → romEnc v = some (dpdEncode v)) ∧ (∀ v : Nat, 999 < v → romEnc v = none)

/-- R42: the listing of ROM_DEC is the published decoding table, entry by entry, non-canonical codes included. -/
def Obligations.RomDecIsDecodingTable : Prop := ∀ c : Declet, (romDec c).toNat = dpdDecode c

/-- R43: no command reads ROM_ENC where it has no entry, from any state. -/
def Obligations.NoReadBeyondRomEnc : Prop := ∀ s : State, step s ≠ .fault .romEncNoEntry

/-- R85: `decode` equals the decoding table, its range is exactly 0 to 999, and the eight all-large values have four
codes each. -/
def Obligations.DecodeRangeAndRedundancy : Prop :=
  (∀ c : Declet, valueOf c = dpdDecode c ∧ valueOf c ≤ 999) ∧
  (∀ v : Nat, v ≤ 999 → ∃ c : Declet, valueOf c = v) ∧
  (∀ v ∈ [888, 889, 898, 899, 988, 989, 998, 999],
    ((List.range 1024).filter fun n => valueOf (BitVec.ofNat 10 n) = v).length = 4)

/-- R86, R89: `encode` is injective on 0 to 999 and `decode` undoes it. -/
def Obligations.EncodeInjectiveAndUndone : Prop :=
  (∀ v w : Nat, v ≤ 999 → w ≤ 999 → romEnc v = romEnc w → v = w) ∧
  (∀ v : Nat, v ≤ 999 → ∃ c, romEnc v = some c ∧ valueOf c = v)

/-- R100: the non-canonical codes are exactly those with `s t v w x` all 1 and `p q` not 00, and they are the 24 of the
rule's table, in ascending order. -/
def Obligations.NonCanonicalCodesAre24 : Prop :=
  (∀ c : Declet, isCanonical c = false ↔
    c.getLsbD 6 = true ∧ c.getLsbD 5 = true ∧ c.getLsbD 3 = true ∧ c.getLsbD 2 = true ∧ c.getLsbD 1 = true ∧
    (c.getLsbD 9 = true ∨ c.getLsbD 8 = true)) ∧
  ((List.range 1024).filter fun n => !isCanonical (BitVec.ofNat 10 n)) =
    [0x16E, 0x16F, 0x17E, 0x17F, 0x1EE, 0x1EF, 0x1FE, 0x1FF, 0x26E, 0x26F, 0x27E, 0x27F, 0x2EE, 0x2EF, 0x2FE, 0x2FF,
     0x36E, 0x36F, 0x37E, 0x37F, 0x3EE, 0x3EF, 0x3FE, 0x3FF]

/-- R103: the bit test of ISCANON agrees with the definition of a canonical code on every code. -/
def Obligations.BitTestEqualsDefinition : Prop :=
  ∀ c : Declet, (c &&& 0x300#10 ≠ 0#10 ∧ c &&& 0x06E#10 = 0x06E#10) ↔ romEnc (valueOf c) ≠ some c

/-! ## What each instruction answers, in every state (40_codec.md, 41_normalizer.md, 42_arithmetic.md) -/

/-- R87: INT2DPD answers the canonical code of its value, and above 999 faults with DOMAIN_VALUE. -/
def Obligations.Int2dpdAnswersCode : Prop :=
  ∀ (value : Declet) (s : State),
    (value.toNat ≤ 999 → exec (.int2dpd value) s = .next (s.complete ((dpdEncode value.toNat).setWidth 32))) ∧
    (999 < value.toNat → exec (.int2dpd value) s = .next (s.raiseFault .domainValue))

/-- R88: DPD2INT answers the value of any code. -/
def Obligations.Dpd2intAnswersValue : Prop :=
  ∀ (code : Declet) (s : State),
    exec (.dpd2int code) s = .next (s.complete (BitVec.ofNat 32 (dpdDecode code)))

/-- R101: CANON answers the canonical code of the value of any code. -/
def Obligations.CanonAnswersCanonicalCode : Prop :=
  ∀ (code : Declet) (s : State),
    exec (.canon code) s = .next (s.complete ((dpdEncode (dpdDecode code)).setWidth 32))

/-- R102, by the definition of R100: ISCANON answers 1 when a code is the code of its value, else 0. -/
def Obligations.IscanonAnswersWhetherCanonical : Prop :=
  ∀ (code : Declet) (s : State),
    exec (.iscanon code) s =
      .next (s.complete (if code = dpdEncode (dpdDecode code) then 1#32 else 0#32))

/-- R122: INC answers the carry-tagged sum, and faults with DOMAIN_K for a step above 1000. -/
def Obligations.IncAnswersTaggedSum : Prop :=
  ∀ (code k : Declet) (s : State),
    (k.toNat ≤ 1000 → exec (.inc code k) s = .next (s.complete
      (if dpdDecode code + k.toNat < 1000 then (0#1 ++ dpdEncode (dpdDecode code + k.toNat)).setWidth 32
        else (1#1 ++ dpdEncode (dpdDecode code + k.toNat - 1000)).setWidth 32))) ∧
    (1000 < k.toNat → exec (.inc code k) s = .next (s.raiseFault .domainK))

/-- R123: DEC answers the borrow-tagged difference, and faults with DOMAIN_K for a step above 1000. -/
def Obligations.DecAnswersTaggedDifference : Prop :=
  ∀ (code k : Declet) (s : State),
    (k.toNat ≤ 1000 → exec (.dec code k) s = .next (s.complete
      (if k.toNat ≤ dpdDecode code then (0#1 ++ dpdEncode (dpdDecode code - k.toNat)).setWidth 32
        else (1#1 ++ dpdEncode (dpdDecode code + 1000 - k.toNat)).setWidth 32))) ∧
    (1000 < k.toNat → exec (.dec code k) s = .next (s.raiseFault .domainK))

/-- R124: ADD answers the carry-tagged sum of two values and the carry-in, for all operands. -/
def Obligations.AddAnswersTaggedSum : Prop :=
  ∀ (a b : Declet) (ci : Bool) (s : State),
    exec (.add a b ci) s = .next (s.complete
      (if dpdDecode a + dpdDecode b + ci.toNat < 1000
        then (0#1 ++ dpdEncode (dpdDecode a + dpdDecode b + ci.toNat)).setWidth 32
        else (1#1 ++ dpdEncode (dpdDecode a + dpdDecode b + ci.toNat - 1000)).setWidth 32))

/-- R125: SUB answers the borrow-tagged difference of two values and the borrow-in, for all operands. -/
def Obligations.SubAnswersTaggedDifference : Prop :=
  ∀ (a b : Declet) (bi : Bool) (s : State),
    exec (.sub a b bi) s = .next (s.complete
      (if dpdDecode b + bi.toNat ≤ dpdDecode a
        then (0#1 ++ dpdEncode (dpdDecode a - (dpdDecode b + bi.toNat))).setWidth 32
        else (1#1 ++ dpdEncode (dpdDecode a + 1000 - (dpdDecode b + bi.toNat))).setWidth 32))

/-- R126: CMP answers the signed difference of two values, as a 32-bit two's-complement word. -/
def Obligations.CmpAnswersSignedDifference : Prop :=
  ∀ (a b : Declet) (s : State), ∃ r : Word,
    exec (.cmp a b) s = .next (s.complete r) ∧ r.toInt = (dpdDecode a : Int) - (dpdDecode b : Int)

/-- R24, R46, R152: what completion and a fault write, whole and at once: the latch, the phase, and for a fault the
run's record; nothing else. -/
def Obligations.CompletionWritesLatchWhole : Prop :=
  (∀ (r : Word) (s : State), s.complete r =
    { s with phase := .full, latch := { rspValid := true, result := some r, status := some 0x0#4 } }) ∧
  (∀ (c : Cause) (s : State), s.raiseFault c =
    { s with
      phase := .full
      latch := { rspValid := true, result := none, status := some (causeCode c) }
      faultRecord := s.faultRecord ++ [c] })

/-! ## Faults (60_exceptions.md) -/

/-- R154: DOMAIN_VALUE is the answer of INT2DPD above 999 and of no other command word. -/
def Obligations.DomainValueOnlyInt2dpd : Prop :=
  ∀ w : Word, execute w = some (.fault .domainValue) ↔
    ∃ value : Declet, 999 < value.toNat ∧ w = encode (.int2dpd value)

/-- R155: DOMAIN_K is the answer of INC and DEC with a step above 1000 and of no other command word. -/
def Obligations.DomainKOnlyIncDec : Prop :=
  ∀ w : Word, execute w = some (.fault .domainK) ↔
    ∃ code k : Declet, 1000 < k.toNat ∧ (w = encode (.inc code k) ∨ w = encode (.dec code k))

/-- R63, R150: every instruction completes in every state, with STATUS OK exactly when its operands are admitted, and
otherwise with the domain fault of its operation. -/
def Obligations.EveryInstructionCompletes : Prop :=
  ∀ (i : Instr) (s : State),
    (i.wellFormed = true → ∃ r, exec i s = .next (s.complete r)) ∧
    (i.wellFormed = false → exec i s = .next (s.raiseFault
      (match i with
        | .int2dpd _ => .domainValue
        | _ => .domainK)))

/-- The frame of all nine instructions (R24, R27, R152): an instruction that completes leaves the phase FULL, writes
RSP_VALID, RESULT and STATUS, adds to the fault record exactly when it faults, and changes nothing else. -/
def Obligations.InstructionFrame : Prop :=
  ∀ (i : Instr) (s t : State), exec i s = .next t →
    t.phase = .full ∧ t.latch.rspValid = true ∧
    t.tablesReady = s.tablesReady ∧ t.inputs = s.inputs ∧ t.observed = s.observed ∧
    ((t.latch.status = some 0x0#4 ∧ t.latch.result ≠ none ∧ t.faultRecord = s.faultRecord) ∨
      (∃ c, t.latch.status = some (causeCode c) ∧ t.latch.result = none ∧
        t.faultRecord = s.faultRecord ++ [c]))

/-- R20: the response depends on the command word alone, never on earlier commands or anything else in the state. -/
def Obligations.ResponseDependsOnWordOnly : Prop :=
  ∀ (w : Word) (s s' t t' : State), completeCommand w s = .next t → completeCommand w s' = .next t' →
    t.latch = t'.latch ∧ t.phase = t'.phase

/-- D19, R152: the fault record is never cleared, and grows by the cause of a faulting response exactly at the edge at
which that response is written. That an edge with RST = 1 leaves the record as it is, is DEDUCED from "never clears" and
the model's choice (log entry 7); the edge's inputs are the model's own field (log entry 1). -/
def Obligations.FaultRecordNeverCleared : Prop :=
  ∀ s t : State, step s = .next t →
    (∀ cmd c, s.input.rst = false → s.phase = .busy cmd 0 → execute cmd = some (.fault c) →
      t.faultRecord = s.faultRecord ++ [c] ∧ t.latch = { rspValid := true, result := none, status := some (causeCode c) }) ∧
    ((∀ cmd c, s.input.rst = false → s.phase = .busy cmd 0 → execute cmd ≠ some (.fault c)) →
      t.faultRecord = s.faultRecord)

/-! ## Laws of the operations -/

/-- R89: DPD2INT undoes INT2DPD, INT2DPD after DPD2INT is CANON, and INT2DPD never answers a non-canonical code. -/
def Obligations.CodecLaws : Prop :=
  (∀ value : Declet, value.toNat ≤ 999 → ∃ r, respond (.int2dpd value) = some (.ok r) ∧
    isCanonical (r.setWidth 10) = true ∧
    respond (.dpd2int (r.setWidth 10)) = some (.ok (value.setWidth 32))) ∧
  (∀ code : Declet, ∃ r, respond (.dpd2int code) = some (.ok r) ∧
    respond (.int2dpd (r.setWidth 10)) = respond (.canon code))

/-- R104: CANON is INT2DPD after DPD2INT and idempotent, ISCANON answers 1 exactly on the codes CANON keeps, and CANON
keeps the value. -/
def Obligations.NormalizerLaws : Prop :=
  ∀ c : Declet, ∃ v r, respond (.dpd2int c) = some (.ok v) ∧ respond (.canon c) = some (.ok r) ∧
    respond (.int2dpd (v.setWidth 10)) = some (.ok r) ∧
    respond (.canon (r.setWidth 10)) = some (.ok r) ∧
    (respond (.iscanon c) = some (.ok 1#32) ↔ r = c.setWidth 32) ∧
    respond (.dpd2int (r.setWidth 10)) = some (.ok v)

/-- R127, for INC and ADD: `1000 f + r` is the exact sum, with `f` = RESULT[10] and `r` the value of RESULT[9:0]. -/
def Obligations.SumLaws : Prop :=
  (∀ code k : Declet, k.toNat ≤ 1000 → ∃ w, respond (.inc code k) = some (.ok w) ∧
    1000 * (w.getLsbD 10).toNat + dpdDecode (w.setWidth 10) = dpdDecode code + k.toNat ∧
    dpdDecode (w.setWidth 10) ≤ 999) ∧
  (∀ (a b : Declet) (ci : Bool), ∃ w, respond (.add a b ci) = some (.ok w) ∧
    1000 * (w.getLsbD 10).toNat + dpdDecode (w.setWidth 10) = dpdDecode a + dpdDecode b + ci.toNat)

/-- R127, for DEC and SUB: `r − 1000 f` is the exact difference. -/
def Obligations.DifferenceLaws : Prop :=
  (∀ code k : Declet, k.toNat ≤ 1000 → ∃ w, respond (.dec code k) = some (.ok w) ∧
    (dpdDecode (w.setWidth 10) : Int) - 1000 * (w.getLsbD 10).toNat = (dpdDecode code : Int) - (k.toNat : Int) ∧
    dpdDecode (w.setWidth 10) ≤ 999) ∧
  (∀ (a b : Declet) (bi : Bool), ∃ w, respond (.sub a b bi) = some (.ok w) ∧
    (dpdDecode (w.setWidth 10) : Int) - 1000 * (w.getLsbD 10).toNat =
      (dpdDecode a : Int) - (dpdDecode b : Int) - (bi.toNat : Int))

/-- R126, R127, for CMP: swapping the operands negates the result, and it is zero exactly for codes of equal value,
canonical or not. -/
def Obligations.CompareLaws : Prop :=
  ∀ a b : Declet, ∃ r r', respond (.cmp a b) = some (.ok r) ∧ respond (.cmp b a) = some (.ok r') ∧
    r.toInt = -r'.toInt ∧ (r = 0#32 ↔ dpdDecode a = dpdDecode b)

/-- R120: a result of INC, DEC, ADD or SUB is `zext_32(f ++ code)` with a canonical code; bits 31 to 11 are 0, and with
`f` = 0 it equals the plain code. -/
def Obligations.CarryTaggedResults : Prop :=
  ∀ (a b : Declet) (ci : Bool), ∀ i ∈ [Instr.inc a b, Instr.dec a b, Instr.add a b ci, Instr.sub a b ci],
    ∀ r, respond i = some (.ok r) → ∃ (f : Bool) (code : Declet),
      r = (BitVec.ofBool f ++ code).setWidth 32 ∧ isCanonical code = true ∧
      r.getLsbD 10 = f ∧ r >>> 11 = 0#32 ∧ (f = false → r = code.setWidth 32)

/-- R27: RESULT[10] of INT2DPD, DPD2INT, CANON and ISCANON is 0, their results being below 1024. -/
def Obligations.CodecResultsBelow1024 : Prop :=
  ∀ (a : Declet), ∀ i ∈ [Instr.int2dpd a, Instr.dpd2int a, Instr.canon a, Instr.iscanon a],
    ∀ r, respond i = some (.ok r) → r.toNat < 1024 ∧ r.getLsbD 10 = false

/-- R121: the ranges of the intermediate sums, and that the step `decode(b) + ci` of ADD and SUB never leaves 0 to
1000. -/
def Obligations.IntermediateSumsInRange : Prop :=
  ∀ (a b k : Declet) (ci : Bool),
    (k.toNat ≤ 1000 → valueOf a + k.toNat ≤ 1999 ∧
      -1000 ≤ (valueOf a : Int) - (k.toNat : Int) ∧ (valueOf a : Int) - (k.toNat : Int) ≤ 999) ∧
    valueOf b + ci.toNat ≤ 1000 ∧
    (∃ r, respond (.add a b ci) = some (.ok r)) ∧ (∃ r, respond (.sub a b ci) = some (.ok r))

/-! ## The edge (10_state.md, 70_reset_and_hazards.md) -/

/-- R24, R67: when the response of a command in flight is due and its word decodes, the step is `exec` of that
instruction on the state with the edge's input used up and the end of a table load noted, both the model's own
(log entries 1 and 9). -/
def Obligations.StepRunsDecodedInstruction : Prop :=
  ∀ (s : State) (cmd : Word) (i : Instr), s.phase = .busy cmd 0 → decode cmd = .ok i →
    s.input.rst = false → s.input.readResult = false → s.input.readStatus = false →
    step s = exec i { s with
      inputs := s.inputs.tail
      tablesReady := s.tablesReady || s.input.tablesLoaded }

/-- R65, R66: when it does not decode, the step completes it with the fault status of its cause. The input used up and
the table load noted are the model's own (log entries 1 and 9). -/
def Obligations.StepFaultsUndecodedWord : Prop :=
  ∀ (s : State) (cmd : Word) (c : Cause), s.phase = .busy cmd 0 → decode cmd = .error c →
    s.input.rst = false → s.input.readResult = false → s.input.readStatus = false →
    step s = .next { s with
      phase := .full
      latch := { rspValid := true, result := none, status := some (causeCode c) }
      faultRecord := s.faultRecord ++ [c]
      inputs := s.inputs.tail
      tablesReady := s.tablesReady || s.input.tablesLoaded }

/-- R23, R25: a command offered while RDY = 1 and RST = 0 is accepted: BUSY with LATENCY edges to come, RSP_VALID = 0,
and nothing else changed. The model's choice in this: the input used up (log entry 1), the acceptance edge not counted in
LATENCY (log entry 5), and RESULT and STATUS keeping their values behind RSP_VALID = 0, where R24 and R184 differ
(DEDUCED, log entry 3). -/
def Obligations.OfferedCommandIsAccepted : Prop :=
  ∀ s : State, s.rdy = true → s.input.rst = false → s.input.req = true →
    s.input.readResult = false → s.input.readStatus = false →
    step s = .next { s with
      phase := .busy s.input.cmd (Config.latency (opField s.input.cmd) - 1)
      latch := { s.latch with rspValid := false }
      inputs := s.inputs.tail }

/-- R50, R183: while a command waits in BUSY, neither REQ nor CMD has any effect: its word and its count stay its own.
The model's choice in this: the input used up and the table load noted (log entries 1 and 9), and the latch kept while
BUSY (DEDUCED, log entry 3). -/
def Obligations.BusyIgnoresRequests : Prop :=
  ∀ (s : State) (cmd : Word) (left : Nat), s.phase = .busy cmd (left + 1) →
    s.input.rst = false → s.input.readResult = false → s.input.readStatus = false →
    step s = .next { s with
      phase := .busy cmd left
      inputs := s.inputs.tail
      tablesReady := s.tablesReady || s.input.tablesLoaded } ∧ s.rdy = false

/-- R183: a request that is held while RDY = 0, the tables being loaded, is accepted at the first edge with RDY = 1, once
the command in flight has completed. The listed inputs are the model's own field (log entry 1). -/
def Obligations.HeldRequestIsAccepted : Prop :=
  ∀ (left : Nat) (s : State) (cmd : Word) (p : EdgeInput) (rest : List EdgeInput),
    s.phase = .busy cmd left → s.tablesReady = true →
    p.rst = false → p.req = true → p.readResult = false → p.readStatus = false →
    s.inputs = List.replicate (left + 2) p ++ rest →
    ∃ t, runEdges (left + 2) s = .next t ∧
      t.phase = .busy p.cmd (Config.latency (opField p.cmd) - 1) ∧ t.inputs = rest

/-- R24, R168: with no command in flight and none offered, the latch and the phase stay as they are. The input used up
and the table load noted are the model's own (log entries 1 and 9). -/
def Obligations.IdleKeepsLatch : Prop :=
  ∀ s : State, s.phase = .empty ∨ s.phase = .full → s.input.rst = false → s.input.req = false →
    s.input.readResult = false → s.input.readStatus = false →
    step s = .next { s with
      inputs := s.inputs.tail
      tablesReady := s.tablesReady || s.input.tablesLoaded }

/-- R182: before the tables hold their contents RDY is 0 and an offered command gets no step. The bit for the tables and
the input used up are the model's own (log entries 9 and 1). -/
def Obligations.NoCommandBeforeTables : Prop :=
  ∀ s : State, s.tablesReady = false → s.phase = .empty → s.input.rst = false →
    s.input.readResult = false → s.input.readStatus = false →
    s.rdy = false ∧
    step s = .next { s with inputs := s.inputs.tail, tablesReady := s.input.tablesLoaded }

/-- R180: any number of edges with RST = 1, from any state, leave EMPTY with RSP_VALID = 0 and no value in RESULT or
STATUS; a command in flight is gone and none is accepted; with the tables loaded RDY is 1.
That the fault record and the loaded tables outlast reset, and the input used up, are the model's choice (log entries 7,
9 and 1). -/
def Obligations.ResetEdgesLeaveEmpty : Prop :=
  ∀ (held rest : List EdgeInput) (s : State), held ≠ [] →
    (∀ p ∈ held, p.rst = true ∧ p.readResult = false ∧ p.readStatus = false) →
    s.inputs = held ++ rest →
    runEdges held.length s = .next { s with
      phase := .empty
      latch := { rspValid := false, result := none, status := none }
      inputs := rest
      tablesReady := s.tablesReady || held.any (fun p => p.tablesLoaded) } ∧
    (s.tablesReady = true → ∀ t, runEdges held.length s = .next t → t.rdy = true)

/-- R32: the state after reset; a read of RESULT or STATUS there is a fault. The empty `inputs` and `observed` are the
model's own fields and not part of the statement. -/
def Obligations.ResetState : Prop :=
  State.reset.phase = .empty ∧ State.reset.rdy = true ∧ State.reset.rspValid = false ∧
  State.reset.latch.result = none ∧ State.reset.latch.status = none ∧
  State.reset.readResult = .error .readNotValid ∧ State.reset.readStatus = .error .readNotValid ∧
  State.reset.view = none ∧ State.reset.faultRecord = []

/-- R26: a read of RESULT or STATUS while RSP_VALID = 0 is a fault, and so is a read of RESULT after a command with
STATUS ≠ 0. That a read stops the step of its edge is the model's form of it (log entry 2). -/
def Obligations.ReadWithoutValueFaults : Prop :=
  ∀ s : State,
    (s.rspValid = false → s.input.readResult = true → step s = .fault .readNotValid) ∧
    (s.rspValid = false → s.input.readStatus = true → step s = .fault .readNotValid) ∧
    (∀ c, s.rspValid = true → s.latch.status = some c → c ≠ 0x0#4 → s.input.readResult = true →
      step s = .fault .readNoResult)

/-- R24, R26: while RSP_VALID = 1 a read returns what the latch holds: RESULT of a command that did not fault, STATUS of
any. When a read happens and the record of it are the model's choice (log entries 2 and 8). -/
def Obligations.ReadReturnsLatch : Prop :=
  (∀ (s : State) (r : Word), s.latch = { rspValid := true, result := some r, status := some 0x0#4 } →
    s.hostReads = .ok { s with observed := s.observed ++
      ((if s.input.readResult then [.result r] else []) ++ if s.input.readStatus then [.status 0x0#4] else []) }) ∧
  (∀ (s : State) (c : Cause), s.latch = { rspValid := true, result := none, status := some (causeCode c) } →
    s.input.readResult = false → s.input.readStatus = true →
    s.hostReads = .ok { s with observed := s.observed ++ [.status (causeCode c)] })

/-- R24, R26: a read that is answered has no effect on the DDU: the edge does what it would do without the read.
The record of reads is the model's own (log entries 2 and 8). -/
def Obligations.ReadsDoNotDisturb : Prop :=
  ∀ (s t : State) (p : EdgeInput) (rest : List EdgeInput) (seen : List PortRead),
    s.inputs = p :: rest → s.hostReads = .ok { s with observed := s.observed ++ seen } →
    step { s with inputs := { p with readResult := false, readStatus := false } :: rest } = .next t →
    step s = .next { t with observed := s.observed ++ seen }

/-- R26, R151, R158: the step stops only where a host's read is a fault (log entry 2); every other edge has a next
state. -/
def Obligations.StepStopsOnlyOnBadRead : Prop :=
  ∀ s : State, (∃ t, step s = .next t) ∨ ∃ f, step s = .fault f ∧ s.hostReads = .error f

/-- R30, R25, R187: the cycle-level machine refines the transaction view. A command accepted at an edge is BUSY with no
response for every edge before its LATENCY has passed, whatever REQ and CMD do meanwhile, and then the latch is
`execute` of its word. The listed inputs are the model's own field (log entry 1). -/
def Obligations.EdgesRefineTransaction : Prop :=
  ∀ (s : State) (p : EdgeInput) (flight rest : List EdgeInput),
    s.rdy = true → s.inputs = p :: (flight ++ rest) → flight.length = Config.latency (opField p.cmd) →
    p.rst = false → p.req = true → p.readResult = false → p.readStatus = false →
    (∀ q ∈ flight, q.rst = false ∧ q.readResult = false ∧ q.readStatus = false) →
    (∀ n, 1 ≤ n → n ≤ flight.length → ∃ u, runEdges n s = .next u ∧
      u.view = none ∧ u.rdy = false ∧ u.faultRecord = s.faultRecord) ∧
    (∃ r t, execute p.cmd = some r ∧ runEdges (flight.length + 1) s = .next t ∧
      t.phase = .full ∧ t.rdy = true ∧ t.view = some (responseResult r, some (responseStatus r)) ∧
      t.inputs = rest ∧ t.observed = s.observed)

/-- The invariant of the machine (R25, R150, R152, R182, R187, D19) is kept by every step from every state. -/
def Obligations.StepKeepsInvariant : Prop := ∀ s t : State, s.Inv → step s = .next t → t.Inv

/-- It holds after reset (R32). -/
def Obligations.ResetHasInvariant : Prop := State.reset.Inv

/-! ## Outside the unit: chains, assembler, bus adapter -/

/-- R128: the carry chain of ADD over two numbers of equal length gives the declets of their sum, all canonical, and the
carry out of the whole number. -/
def Obligations.AddChainAddsNumbers : Prop :=
  ∀ (pairs : List (Declet × Declet)) (carry : Bool), ∃ digits last,
    addChain pairs carry = some (digits, last) ∧ digits.length = pairs.length ∧
    (∀ d ∈ digits, isCanonical d = true) ∧
    coefficient digits + 1000 ^ pairs.length * last.toNat =
      coefficient (pairs.map Prod.fst) + coefficient (pairs.map Prod.snd) + carry.toNat

/-- R128: the borrow chain of SUB gives the declets of the difference and the borrow out of the whole number. -/
def Obligations.SubChainSubtractsNumbers : Prop :=
  ∀ (pairs : List (Declet × Declet)) (borrow : Bool), ∃ digits last,
    subChain pairs borrow = some (digits, last) ∧ digits.length = pairs.length ∧
    (∀ d ∈ digits, isCanonical d = true) ∧
    (coefficient digits : Int) - 1000 ^ pairs.length * last.toNat =
      (coefficient (pairs.map Prod.fst) : Int) - coefficient (pairs.map Prod.snd) - borrow.toNat

/-- R128: comparing from the most significant declet down and stopping at the first nonzero result orders the numbers. -/
def Obligations.CompareChainOrdersNumbers : Prop :=
  ∀ pairs : List (Declet × Declet), ∃ r, compareChain pairs = some r ∧
    (r = 0#32 ↔ coefficient (pairs.map Prod.fst).reverse = coefficient (pairs.map Prod.snd).reverse) ∧
    (r.toInt < 0 ↔ coefficient (pairs.map Prod.fst).reverse < coefficient (pairs.map Prod.snd).reverse)

/-- R69, R70: a statement assembles to the word of R60 when every operand fits its field, and is otherwise an error; a
pseudo-instruction assembles as its expansion. -/
def Obligations.AssemblerEncodesFittingOperands : Prop :=
  (∀ a : Nat, ∀ f ∈ [(0x1#4, AsmStatement.int2dpd a), (0x2#4, AsmStatement.dpd2int a), (0x3#4, AsmStatement.canon a),
      (0x4#4, AsmStatement.iscanon a)],
    assemble f.2 = if a ≤ 1023 then .ok (commandWord f.1 false 0#10 (BitVec.ofNat 10 a)) else .error .operandTooWide) ∧
  (∀ a b : Nat, ∀ f ∈ [(0x5#4, AsmStatement.inc a b), (0x6#4, AsmStatement.dec a b), (0x9#4, AsmStatement.cmp a b)],
    assemble f.2 = if a ≤ 1023 ∧ b ≤ 1023 then .ok (commandWord f.1 false (BitVec.ofNat 10 b) (BitVec.ofNat 10 a))
      else .error .operandTooWide) ∧
  (∀ a b c : Nat, ∀ f ∈ [(0x7#4, AsmStatement.add a b c), (0x8#4, AsmStatement.sub a b c)],
    assemble f.2 = if a ≤ 1023 ∧ b ≤ 1023 ∧ c ≤ 1
      then .ok (commandWord f.1 (decide (c = 1)) (BitVec.ofNat 10 b) (BitVec.ofNat 10 a))
      else .error .operandTooWide) ∧
  (∀ a b : Nat,
    assemble (.incOne a) = assemble (.inc a 1) ∧ assemble (.decOne a) = assemble (.dec a 1) ∧
    assemble (.addNoCarry a b) = assemble (.add a b 0) ∧ assemble (.subNoBorrow a b) = assemble (.sub a b 0) ∧
    assemble (.enc a) = assemble (.int2dpd a) ∧ assemble (.decodeCode a) = assemble (.dpd2int a))

/-- Whatever the byte order of a bus adapter, words cross it unchanged in both directions. R10 and R44 leave the order
open; an adapter that carries four whole bytes on permuted lanes is the model's DESIGN CHOICE (log entry 6). -/
def Obligations.BusAdapterCarriesWords : Prop :=
  ∀ order : Equiv.Perm (Fin 4),
    (∀ w : Word, busWord order (busLanes order w) = w) ∧
    (∀ lanes : Vector Byte 4, busLanes order (busWord order lanes) = lanes)
end

