-- ==== Sys2Proof/Laws/Flags.lean ====
section
/-! SUPPORT. The bits of a carry-tagged result (42_arithmetic.md R120). -/

namespace Sys2Proof.Machine

/-- The bits of `zext_32(f ++ code)`. -/
theorem taggedResult_bit (f : Bool) (code : Declet) (i : Nat) :
    (taggedResult f code).getLsbD i =
      (decide (i < 32) && if i < 10 then code.getLsbD i else (BitVec.ofBool f).getLsbD (i - 10)) := by
  rw [taggedResult, BitVec.getLsbD_setWidth, BitVec.getLsbD_append]

/-- RESULT[9:0] is the code. -/
@[simp] theorem taggedResult_code (f : Bool) (code : Declet) : (taggedResult f code).setWidth 10 = code := by
  apply BitVec.eq_of_getLsbD_eq
  intro i hi
  rw [BitVec.getLsbD_setWidth, taggedResult_bit]
  simp [hi]
  omega

/-- RESULT[10] is the flag. -/
@[simp] theorem taggedResult_flag (f : Bool) (code : Declet) : (taggedResult f code).getLsbD 10 = f := by
  rw [taggedResult_bit]
  simp

/-- The code of a plain result. -/
@[simp] theorem plainResult_code (code : Declet) : (plainResult code).setWidth 10 = code := by
  simp [plainResult]

end Sys2Proof.Machine
end

