-- ==== Sys2Proof/Laws/State.lean ====
section
/-! SUPPORT. One lemma per field per named update of the state, so that no proof unfolds a record update. -/

namespace Sys2Proof.Machine

@[simp] theorem sampled_phase (s : State) : (s.sampled).phase = s.phase := rfl
@[simp] theorem sampled_latch (s : State) : (s.sampled).latch = s.latch := rfl
@[simp] theorem sampled_tablesReady (s : State) : (s.sampled).tablesReady = (s.tablesReady || s.input.tablesLoaded) := rfl
@[simp] theorem sampled_faultRecord (s : State) : (s.sampled).faultRecord = s.faultRecord := rfl
@[simp] theorem sampled_inputs (s : State) : (s.sampled).inputs = s.inputs.tail := rfl
@[simp] theorem sampled_observed (s : State) : (s.sampled).observed = s.observed := rfl

@[simp] theorem accept_phase (cmd : Word) (s : State) : (s.accept cmd).phase = .busy cmd (Config.latencyBeyondOne (opField cmd)) := rfl
@[simp] theorem accept_latch (cmd : Word) (s : State) : (s.accept cmd).latch = { s.latch with rspValid := false } := rfl
@[simp] theorem accept_tablesReady (cmd : Word) (s : State) : (s.accept cmd).tablesReady = s.tablesReady := rfl
@[simp] theorem accept_faultRecord (cmd : Word) (s : State) : (s.accept cmd).faultRecord = s.faultRecord := rfl
@[simp] theorem accept_inputs (cmd : Word) (s : State) : (s.accept cmd).inputs = s.inputs := rfl
@[simp] theorem accept_observed (cmd : Word) (s : State) : (s.accept cmd).observed = s.observed := rfl

@[simp] theorem wait_phase (cmd : Word) (left : Nat) (s : State) : (s.wait cmd left).phase = .busy cmd left := rfl
@[simp] theorem wait_latch (cmd : Word) (left : Nat) (s : State) : (s.wait cmd left).latch = s.latch := rfl
@[simp] theorem wait_tablesReady (cmd : Word) (left : Nat) (s : State) : (s.wait cmd left).tablesReady = s.tablesReady := rfl
@[simp] theorem wait_faultRecord (cmd : Word) (left : Nat) (s : State) : (s.wait cmd left).faultRecord = s.faultRecord := rfl
@[simp] theorem wait_inputs (cmd : Word) (left : Nat) (s : State) : (s.wait cmd left).inputs = s.inputs := rfl
@[simp] theorem wait_observed (cmd : Word) (left : Nat) (s : State) : (s.wait cmd left).observed = s.observed := rfl

@[simp] theorem complete_phase (r : Word) (s : State) : (s.complete r).phase = .full := rfl
@[simp] theorem complete_latch (r : Word) (s : State) : (s.complete r).latch = { rspValid := true, result := some r, status := some statusOk } := rfl
@[simp] theorem complete_tablesReady (r : Word) (s : State) : (s.complete r).tablesReady = s.tablesReady := rfl
@[simp] theorem complete_faultRecord (r : Word) (s : State) : (s.complete r).faultRecord = s.faultRecord := rfl
@[simp] theorem complete_inputs (r : Word) (s : State) : (s.complete r).inputs = s.inputs := rfl
@[simp] theorem complete_observed (r : Word) (s : State) : (s.complete r).observed = s.observed := rfl

@[simp] theorem raiseFault_phase (c : Cause) (s : State) : (s.raiseFault c).phase = .full := rfl
@[simp] theorem raiseFault_latch (c : Cause) (s : State) : (s.raiseFault c).latch = { rspValid := true, result := none, status := some (causeCode c) } := rfl
@[simp] theorem raiseFault_tablesReady (c : Cause) (s : State) : (s.raiseFault c).tablesReady = s.tablesReady := rfl
@[simp] theorem raiseFault_faultRecord (c : Cause) (s : State) : (s.raiseFault c).faultRecord = s.faultRecord ++ [c] := rfl
@[simp] theorem raiseFault_inputs (c : Cause) (s : State) : (s.raiseFault c).inputs = s.inputs := rfl
@[simp] theorem raiseFault_observed (c : Cause) (s : State) : (s.raiseFault c).observed = s.observed := rfl

@[simp] theorem resetEdge_phase (s : State) : (s.resetEdge).phase = .empty := rfl
@[simp] theorem resetEdge_latch (s : State) : (s.resetEdge).latch = latchAfterReset := rfl
@[simp] theorem resetEdge_tablesReady (s : State) : (s.resetEdge).tablesReady = s.tablesReady := rfl
@[simp] theorem resetEdge_faultRecord (s : State) : (s.resetEdge).faultRecord = s.faultRecord := rfl
@[simp] theorem resetEdge_inputs (s : State) : (s.resetEdge).inputs = s.inputs := rfl
@[simp] theorem resetEdge_observed (s : State) : (s.resetEdge).observed = s.observed := rfl

@[simp] theorem placeCommand_phase (cmd : Word) (s : State) : (s.placeCommand cmd).phase = .busy cmd 0 := rfl
@[simp] theorem placeCommand_latch (cmd : Word) (s : State) : (s.placeCommand cmd).latch = { s.latch with rspValid := false } := rfl
@[simp] theorem placeCommand_tablesReady (cmd : Word) (s : State) : (s.placeCommand cmd).tablesReady = s.tablesReady := rfl
@[simp] theorem placeCommand_faultRecord (cmd : Word) (s : State) : (s.placeCommand cmd).faultRecord = s.faultRecord := rfl
@[simp] theorem placeCommand_inputs (cmd : Word) (s : State) : (s.placeCommand cmd).inputs = quietInput :: s.inputs := rfl
@[simp] theorem placeCommand_observed (cmd : Word) (s : State) : (s.placeCommand cmd).observed = s.observed := rfl

@[simp] theorem accept_rspValid (cmd : Word) (s : State) : (s.accept cmd).rspValid = false := rfl
@[simp] theorem complete_rspValid (r : Word) (s : State) : (s.complete r).rspValid = true := rfl
@[simp] theorem raiseFault_rspValid (c : Cause) (s : State) : (s.raiseFault c).rspValid = true := rfl
@[simp] theorem resetEdge_rspValid (s : State) : s.resetEdge.rspValid = false := rfl

@[simp] theorem phaseBusy_empty : phaseBusy .empty = false := rfl
@[simp] theorem phaseBusy_busy (cmd : Word) (left : Nat) : phaseBusy (.busy cmd left) = true := rfl
@[simp] theorem phaseBusy_full : phaseBusy .full = false := rfl

@[simp] theorem accept_rdy (cmd : Word) (s : State) : (s.accept cmd).rdy = false := rfl
@[simp] theorem wait_rdy (cmd : Word) (left : Nat) (s : State) : (s.wait cmd left).rdy = false := rfl
@[simp] theorem complete_rdy (r : Word) (s : State) : (s.complete r).rdy = s.tablesReady := by simp [State.rdy]
@[simp] theorem raiseFault_rdy (c : Cause) (s : State) : (s.raiseFault c).rdy = s.tablesReady := by simp [State.rdy]
@[simp] theorem resetEdge_rdy (s : State) : s.resetEdge.rdy = s.tablesReady := by simp [State.rdy]

/-- The STATUS codes of the causes are not `OK` (60_exceptions.md R150). -/
@[simp] theorem causeCode_ne_statusOk (c : Cause) : causeCode c ≠ statusOk := by cases c <;> decide

/-- Each cause has a code of its own (R150). -/
theorem causeCode_injective {c d : Cause} (h : causeCode c = causeCode d) : c = d := by
  revert h; cases c <;> cases d <;> decide

/-- No cause has a reserved code (R150). -/
theorem causeCode_le (c : Cause) : (causeCode c).toNat ≤ statusMax := by cases c <;> decide

end Sys2Proof.Machine
end

