-- ==== Sys2Proof/Laws/Ops.lean ====
section
/-! SUPPORT. What each shared operation of the step can do, said once: the host's reads, the delivery of a response, the
action of the DDU at an edge, and the step. -/

namespace Sys2Proof.Machine

/-- A host's reads, when they are answered, add to `observed` and change nothing else. -/
theorem hostReads_ok {s s' : State} (h : s.hostReads = .ok s') :
    ∃ seen, s' = { s with observed := s.observed ++ seen } := by
  unfold State.hostReads at h
  split at h
  · rename_i s1 h1
    unfold State.sampleResult at h1
    unfold State.sampleStatus at h
    split at h1 <;> split at h <;> cases h1 <;> cases h
    · exact ⟨[], by simp⟩
    · exact ⟨[.status _], rfl⟩
    · exact ⟨[.result _], rfl⟩
    · exact ⟨[.result _] ++ [.status _], by rw [← List.append_assoc]⟩
  · cases h

/-- An edge at which the host reads nothing leaves nothing observed. -/
theorem hostReads_quiet {s : State} (h1 : s.input.readResult = false) (h2 : s.input.readStatus = false) :
    s.hostReads = .ok s := by
  simp [State.hostReads, State.sampleResult, State.sampleStatus, h1, h2]

/-- A delivered response is a completion, or a fault status in the latch and in the record. -/
theorem deliver_next {o : Option Response} {s t : State} (h : deliver o s = .next t) :
    (∃ r, o = some (.ok r) ∧ t = s.complete r) ∨ (∃ c, o = some (.fault c) ∧ t = s.raiseFault c) := by
  unfold deliver at h
  split at h <;> cases h
  · exact .inl ⟨_, rfl, rfl⟩
  · exact .inr ⟨_, rfl, rfl⟩

/-- A response is always delivered; only a missing ROM_ENC entry stops the machine. -/
@[simp] theorem deliver_some_ok (r : Word) (s : State) : deliver (some (.ok r)) s = .next (s.complete r) := rfl
@[simp] theorem deliver_some_fault (c : Cause) (s : State) : deliver (some (.fault c)) s = .next (s.raiseFault c) := rfl
@[simp] theorem deliver_none (s : State) : deliver none s = .fault .romEncNoEntry := rfl

/-- Every instruction delivers a response that depends on its operands alone. -/
theorem exec_eq_deliver (i : Instr) (s : State) : exec i s = deliver (respond i) s := by
  cases i <;> rfl

/-- Every command word delivers a response that depends on the word alone. -/
theorem completeCommand_eq_deliver (cmd : Word) (s : State) : completeCommand cmd s = deliver (execute cmd) s := by
  unfold completeCommand execute
  cases decode cmd with
  | ok i => exact exec_eq_deliver i s
  | error c => rfl

/-- A completing command leaves a result, or a fault status in the latch and in the record. -/
theorem completeCommand_next {cmd : Word} {s t : State} (h : completeCommand cmd s = .next t) :
    (∃ r, t = s.complete r) ∨ (∃ c, t = s.raiseFault c) := by
  rw [completeCommand_eq_deliver] at h
  rcases deliver_next h with ⟨r, _, ht⟩ | ⟨c, _, ht⟩
  · exact .inl ⟨r, ht⟩
  · exact .inr ⟨c, ht⟩

/-- At an edge with RST = 1 the DDU is reset (70_reset_and_hazards.md R180). -/
theorem edgeAction_rst {p : EdgeInput} {ready : Bool} {s : State} (h : p.rst = true) :
    edgeAction p ready s = .next s.resetEdge := by
  simp [edgeAction, h]

/-- A response that is due is written (10_state.md R25). -/
theorem edgeAction_due {p : EdgeInput} {ready : Bool} {s : State} {cmd : Word} (hp : s.phase = .busy cmd 0)
    (h : p.rst = false) : edgeAction p ready s = completeCommand cmd s := by
  simp [edgeAction, hp, h]

/-- A response that is not due waits (R25). -/
theorem edgeAction_wait {p : EdgeInput} {ready : Bool} {s : State} {cmd : Word} {left : Nat}
    (hp : s.phase = .busy cmd (left + 1)) (h : p.rst = false) :
    edgeAction p ready s = .next (s.wait cmd left) := by
  simp [edgeAction, hp, h]

/-- With no command in flight an offered one is accepted when RDY was 1, and nothing happens otherwise (R23). -/
theorem edgeAction_idle {p : EdgeInput} {ready : Bool} {s : State} (hp : phaseBusy s.phase = false)
    (h : p.rst = false) :
    edgeAction p ready s = if p.req && ready then .next (s.accept p.cmd) else .next s := by
  cases hc : s.phase <;> rw [hc] at hp <;> simp at hp <;> unfold edgeAction <;> simp [hc, h] <;> split <;> simp_all

/-- Everything the DDU can do at an edge that leaves a next state. -/
theorem edgeAction_next {p : EdgeInput} {ready : Bool} {s t : State} (h : edgeAction p ready s = .next t) :
    (p.rst = true ∧ t = s.resetEdge) ∨
    (p.rst = false ∧ ∃ cmd, s.phase = .busy cmd 0 ∧ completeCommand cmd s = .next t) ∨
    (p.rst = false ∧ ∃ cmd left, s.phase = .busy cmd (left + 1) ∧ t = s.wait cmd left) ∨
    (p.rst = false ∧ phaseBusy s.phase = false ∧ p.req = true ∧ ready = true ∧ t = s.accept p.cmd) ∨
    (p.rst = false ∧ phaseBusy s.phase = false ∧ (p.req && ready) = false ∧ t = s) := by
  unfold edgeAction at h
  split at h
  · cases h; simp_all
  · simp_all
  · cases h; simp_all
  · rename_i hr hq hn hn'
    cases h
    cases hp : s.phase with
    | busy cmd left => cases left with
      | zero => exact absurd hp (hn cmd)
      | succ n => exact absurd hp (hn' cmd n)
    | empty => simp_all
    | full => simp_all
  · rename_i hr hq hn hn'
    cases h
    cases hp : s.phase with
    | busy cmd left => cases left with
      | zero => exact absurd hp (hn cmd)
      | succ n => exact absurd hp (hn' cmd n)
    | empty => simp_all
    | full => simp_all

/-- A step that leaves a next state: the host's reads were answered, and the DDU acted on the sampled state. -/
theorem step_next {s t : State} (h : step s = .next t) :
    ∃ seen, s.hostReads = .ok { s with observed := s.observed ++ seen } ∧
      edgeAction s.input s.rdy ({ s with observed := s.observed ++ seen } : State).sampled = .next t := by
  unfold step clockEdge at h
  split at h
  · rename_i s' hs
    obtain ⟨seen, rfl⟩ := hostReads_ok hs
    exact ⟨seen, hs, h⟩
  · cases h

/-- An edge at which the host reads nothing is the action of the DDU on the sampled state. -/
theorem step_quiet {s : State} (h1 : s.input.readResult = false) (h2 : s.input.readStatus = false) :
    step s = edgeAction s.input s.rdy s.sampled := by
  simp [step, clockEdge, hostReads_quiet h1 h2]

@[simp] theorem runEdges_zero (s : State) : runEdges 0 s = .next s := rfl

/-- One edge and then the others. -/
theorem runEdges_succ {s t : State} (n : Nat) (h : step s = .next t) : runEdges (n + 1) s = runEdges n t := by
  simp [runEdges, h]

end Sys2Proof.Machine
end

