-- ==== Sys2Proof/Laws/PerInstr.lean ====
section
/-! SUPPORT. Laws made per instruction: the word of every instruction selects its own row of the opcode map
(30_encoding.md R64). -/

namespace Sys2Proof.Laws

/-- The encoded instruction selects the row of its opcode: `w &&& mask = pattern` (R64). -/
def EncodesRow.Statement (i : Instr) : Prop :=
  ∃ row ∈ opcodeTable, row.op = opcodeOf i ∧ encode i &&& row.mask = row.pattern

theorem EncodesRow.int2dpd (value : Declet) : EncodesRow.Statement (.int2dpd value) := by
  refine ⟨⟨0x1#4, 0x10000000#32, 0xFFFFFC00#32⟩, by decide, rfl, ?_⟩
  apply BitVec.eq_of_getLsbD_eq; intro n hn
  interval_cases n <;> simp [encode, Machine.commandWord]

theorem EncodesRow.dpd2int (code : Declet) : EncodesRow.Statement (.dpd2int code) := by
  refine ⟨⟨0x2#4, 0x20000000#32, 0xFFFFFC00#32⟩, by decide, rfl, ?_⟩
  apply BitVec.eq_of_getLsbD_eq; intro n hn
  interval_cases n <;> simp [encode, Machine.commandWord]

theorem EncodesRow.canon (code : Declet) : EncodesRow.Statement (.canon code) := by
  refine ⟨⟨0x3#4, 0x30000000#32, 0xFFFFFC00#32⟩, by decide, rfl, ?_⟩
  apply BitVec.eq_of_getLsbD_eq; intro n hn
  interval_cases n <;> simp [encode, Machine.commandWord]

theorem EncodesRow.iscanon (code : Declet) : EncodesRow.Statement (.iscanon code) := by
  refine ⟨⟨0x4#4, 0x40000000#32, 0xFFFFFC00#32⟩, by decide, rfl, ?_⟩
  apply BitVec.eq_of_getLsbD_eq; intro n hn
  interval_cases n <;> simp [encode, Machine.commandWord]

theorem EncodesRow.inc (code k : Declet) : EncodesRow.Statement (.inc code k) := by
  refine ⟨⟨0x5#4, 0x50000000#32, 0xFFC00C00#32⟩, by decide, rfl, ?_⟩
  apply BitVec.eq_of_getLsbD_eq; intro n hn
  interval_cases n <;> simp [encode, Machine.commandWord]

theorem EncodesRow.dec (code k : Declet) : EncodesRow.Statement (.dec code k) := by
  refine ⟨⟨0x6#4, 0x60000000#32, 0xFFC00C00#32⟩, by decide, rfl, ?_⟩
  apply BitVec.eq_of_getLsbD_eq; intro n hn
  interval_cases n <;> simp [encode, Machine.commandWord]

theorem EncodesRow.add (a b : Declet) (ci : Bool) : EncodesRow.Statement (.add a b ci) := by
  refine ⟨⟨0x7#4, 0x70000000#32, 0xFEC00C00#32⟩, by decide, rfl, ?_⟩
  apply BitVec.eq_of_getLsbD_eq; intro n hn
  interval_cases n <;> simp [encode, Machine.commandWord]

theorem EncodesRow.sub (a b : Declet) (bi : Bool) : EncodesRow.Statement (.sub a b bi) := by
  refine ⟨⟨0x8#4, 0x80000000#32, 0xFEC00C00#32⟩, by decide, rfl, ?_⟩
  apply BitVec.eq_of_getLsbD_eq; intro n hn
  interval_cases n <;> simp [encode, Machine.commandWord]

theorem EncodesRow.cmp (a b : Declet) : EncodesRow.Statement (.cmp a b) := by
  refine ⟨⟨0x9#4, 0x90000000#32, 0xFFC00C00#32⟩, by decide, rfl, ?_⟩
  apply BitVec.eq_of_getLsbD_eq; intro n hn
  interval_cases n <;> simp [encode, Machine.commandWord]

end Sys2Proof.Laws
end

