-- ==== Sys2Proof/Laws/Rom.lean ====
section
/-! SUPPORT. What the two ROM reads can answer, and so what the narrowing of a sum or a difference can
(20_memory.md R40, R43; 42_arithmetic.md R121). -/

namespace Sys2Proof.Machine

/-- No entry of `ROM_DEC` is above 999 (R40). -/
theorem valueOf_le (code : Declet) : valueOf code ≤ 999 := by
  revert code; decide +kernel

/-- `ROM_ENC` has an entry at every index up to 999 (R40). -/
theorem romEnc_isSome {v : Nat} (h : v ≤ 999) : ∃ c, romEnc v = some c := by
  have all : (List.range 1000).all (fun v => (romEnc v).isSome) = true := by decide +kernel
  exact Option.isSome_iff_exists.mp (List.all_eq_true.mp all v (List.mem_range.mpr (by omega)))

/-- `ROM_ENC` has no entry above 999 (R40, U9). -/
theorem romEnc_none {v : Nat} (h : 999 < v) : romEnc v = none := by
  have rows : romEncTable.length = 100 := by decide
  unfold romEnc
  rw [List.getElem?_eq_none (by omega)]

/-- A sum below 2000 always narrows to a code under its carry (R121). -/
theorem sumResponse_some {sum : Nat} (h : sum ≤ 1999) :
    ∃ code, romEnc (if sum < 1000 then sum else sum - 1000) = some code ∧
      sumResponse sum = some (.ok (taggedResult (decide (1000 ≤ sum)) code)) := by
  obtain ⟨code, hc⟩ := romEnc_isSome (v := if sum < 1000 then sum else sum - 1000) (by split <;> omega)
  refine ⟨code, hc, ?_⟩
  by_cases hs : sum < 1000
  · have hd : decide (1000 ≤ sum) = false := by simpa using hs
    rw [if_pos hs] at hc
    rw [hd, sumResponse, Config.base, if_pos hs, encodeTagged, hc]; rfl
  · have hd : decide (1000 ≤ sum) = true := by simpa using hs
    rw [if_neg hs] at hc
    rw [hd, sumResponse, Config.base, if_neg hs, encodeTagged, hc]; rfl

/-- A difference from −1000 to 999 always narrows to a code under its borrow (R121). -/
theorem differenceResponse_some {d : Int} (lo : -1000 ≤ d) (hi : d ≤ 999) :
    ∃ code, romEnc (if 0 ≤ d then d.toNat else (d + 1000).toNat) = some code ∧
      differenceResponse d = some (.ok (taggedResult (decide (d < 0)) code)) := by
  obtain ⟨code, hc⟩ := romEnc_isSome (v := if 0 ≤ d then d.toNat else (d + 1000).toNat) (by split <;> omega)
  refine ⟨code, hc, ?_⟩
  by_cases hs : 0 ≤ d
  · have hd : decide (d < 0) = false := by simpa using hs
    rw [if_pos hs] at hc
    rw [hd, differenceResponse, if_pos hs, encodeTagged, hc]; rfl
  · have hd : decide (d < 0) = true := by simpa using hs
    rw [if_neg hs] at hc
    have he : (d + ((Config.base : Nat) : Int)).toNat = (d + 1000).toNat := by rw [Config.base]; rfl
    rw [hd, differenceResponse, if_neg hs, encodeTagged, he, hc]; rfl

end Sys2Proof.Machine
end

