-- ==== Sys2Proof/Laws/WellFormed.lean ====
section
/-! SUPPORT. The operand domains of 30_encoding.md R63 as arithmetic. -/

namespace Sys2Proof

theorem wellFormed_int2dpd (value : Declet) : (Instr.int2dpd value).wellFormed = true ↔ value.toNat ≤ 999 :=
  decide_eq_true_iff

theorem wellFormed_inc (code k : Declet) : (Instr.inc code k).wellFormed = true ↔ k.toNat ≤ 1000 :=
  decide_eq_true_iff

theorem wellFormed_dec (code k : Declet) : (Instr.dec code k).wellFormed = true ↔ k.toNat ≤ 1000 :=
  decide_eq_true_iff

end Sys2Proof
end

