-- ==== Sys2Proof/Tests/Slice0.lean ====
section
/-! SUPPORT. Tests on single words, operands and steps. Expected results are from the spec: the examples of 40_codec.md,
41_normalizer.md and 42_arithmetic.md, the vectors of 95_test_vectors.md and the tables of 60_exceptions.md. After them, for
every statement with hypotheses, a witness that meets them. -/

namespace Sys2Proof.Tests

open Sys2Proof Sys2Proof.Machine

/-! ## Helpers -/

/-- RESULT and STATUS after an outcome that has a next state with RSP_VALID = 1. -/
def viewAfter : Host.Outcome State Fault Refusal → Option (Option Word × Option StatusCode)
  | .next t => t.view
  | .fault _ => none
  | .refused _ => none

/-- The phase after an outcome that has a next state. -/
def phaseAfter : Host.Outcome State Fault Refusal → Option Phase
  | .next t => some t.phase
  | .fault _ => none
  | .refused _ => none

/-- The fault of an outcome. -/
def faultOf : Host.Outcome State Fault Refusal → Option Fault
  | .next _ => none
  | .fault f => some f
  | .refused _ => none

/-- What the host has read after an outcome that has a next state. -/
def observedAfter : Host.Outcome State Fault Refusal → Option (List PortRead)
  | .next t => some t.observed
  | .fault _ => none
  | .refused _ => none

/-- A result with STATUS OK. -/
def okView (r : Word) : Option (Option Word × Option StatusCode) := some (some r, some 0x0#4)

/-- A fault status with no result. -/
def faultView (c : StatusCode) : Option (Option Word × Option StatusCode) := some (none, some c)

/-- BUSY with a command and the edges it still waits, the given inputs to come. -/
def busyState (cmd : Word) (left : Nat) (inputs : List EdgeInput) : State :=
  { State.reset with phase := .busy cmd left, inputs := inputs }

/-- FULL with a response, the given inputs to come. -/
def fullState (result : Option Word) (status : StatusCode) (inputs : List EdgeInput) : State :=
  { State.reset with
    phase := .full, latch := { rspValid := true, result := result, status := some status }, inputs := inputs }

/-- An edge that offers a command. -/
def offer (cmd : Word) : EdgeInput := { quietInput with req := true, cmd := cmd }

/-- An edge with RST = 1. -/
def resetInput : EdgeInput := { quietInput with rst := true }

/-- An edge at which the host reads RESULT. -/
def readInput : EdgeInput := { quietInput with readResult := true }

/-! ## Operand domains (30_encoding.md R63): a term each check refuses, and the last one it admits -/

theorem test_wf_refuses_value_1000 : (Instr.int2dpd 1000#10).wellFormed = false := by decide
theorem test_wf_refuses_inc_1001 : (Instr.inc 0x000#10 1001#10).wellFormed = false := by decide
theorem test_wf_refuses_dec_1001 : (Instr.dec 0x000#10 1001#10).wellFormed = false := by decide
theorem test_wf_admits_limits :
    (Instr.int2dpd 999#10).wellFormed = true ∧ (Instr.inc 0x3FF#10 1000#10).wellFormed = true ∧
    (Instr.dec 0x3FF#10 1000#10).wellFormed = true ∧ (Instr.add 0x3FF#10 0x3FF#10 true).wellFormed = true := by decide

/-! ## Decoding: every constructor by a word written out in the fields of R60, `OP 000 CI 00 B 00 A` -/

theorem test_decode_int2dpd : decode 0b00010000000000000000001111100110#32 = .ok (.int2dpd 998#10) := by decide
theorem test_decode_dpd2int : decode 0b00100000000000000000001111111111#32 = .ok (.dpd2int 0x3FF#10) := by decide
theorem test_decode_canon : decode 0b00110000000000000000001111111110#32 = .ok (.canon 0x3FE#10) := by decide
theorem test_decode_iscanon : decode 0b01000000000000000000000111111111#32 = .ok (.iscanon 0x1FF#10) := by decide
theorem test_decode_inc : decode 0b01010000000000000101000011111110#32 = .ok (.inc 0x0FE#10 5#10) := by decide
theorem test_decode_dec : decode 0b01100000001111101000000000000001#32 = .ok (.dec 0x001#10 1000#10) := by decide
theorem test_decode_add : decode 0b01110001001011000011001001010110#32 = .ok (.add 0x256#10 0x2C3#10 true) := by decide
theorem test_decode_sub : decode 0b10000000000000000101000000000011#32 = .ok (.sub 0x003#10 0x005#10 false) := by decide
theorem test_decode_cmp : decode 0b10010000000000000010000000000101#32 = .ok (.cmp 0x005#10 0x002#10) := by decide

/-- 95_test_vectors.md, decoding and faults: reserved opcodes. -/
theorem test_illegal_opcodes :
    decode 0x00000000#32 = .error .illegalOp ∧ decode 0x0FFFFFFF#32 = .error .illegalOp ∧
    decode 0xA0000000#32 = .error .illegalOp ∧ decode 0xF0000000#32 = .error .illegalOp ∧
    decode 0xB03E9000#32 = .error .illegalOp := by decide

/-- The same section: reserved bits and unused fields. -/
theorem test_reserved_bits :
    decode 0x10001000#32 = .error .reservedBits ∧ decode 0x10000400#32 = .error .reservedBits ∧
    decode 0x11000001#32 = .error .reservedBits ∧ decode 0x12000001#32 = .error .reservedBits ∧
    decode 0x20400001#32 = .error .reservedBits ∧ decode 0x51001001#32 = .error .reservedBits ∧
    decode 0x90000800#32 = .error .reservedBits ∧ decode 0x523E9000#32 = .error .reservedBits := by decide

/-- The words of 95_test_vectors.md P1 are those the encoder gives. -/
theorem test_encode_p1 :
    encode (.add 0x3CF#10 0x111#10 false) = 0x701113CF#32 ∧ encode (.add 0x256#10 0x2C3#10 true) = 0x712C3256#32 ∧
    encode (.dec 0x001#10 1#10) = 0x60001001#32 := by decide

/-! ## Instructions (95_test_vectors.md section 2) -/

theorem test_int2dpd_998 : viewAfter (exec (.int2dpd 998#10) State.reset) = okView 0x000000FE#32 := by decide
theorem test_int2dpd_1000 : viewAfter (exec (.int2dpd 1000#10) State.reset) = faultView 0x3#4 := by decide
theorem test_dpd2int_noncanonical : viewAfter (exec (.dpd2int 0x3FE#10) State.reset) = okView 0x000003E6#32 := by decide
theorem test_dpd2int_808 : viewAfter (exec (.dpd2int 0x02E#10) State.reset) = okView 0x00000328#32 := by decide
theorem test_canon_clears_band : viewAfter (exec (.canon 0x2EF#10) State.reset) = okView 0x000000EF#32 := by decide
theorem test_canon_keeps_777 : viewAfter (exec (.canon 0x3F7#10) State.reset) = okView 0x000003F7#32 := by decide
theorem test_iscanon_1ff : viewAfter (exec (.iscanon 0x1FF#10) State.reset) = okView 0x00000000#32 := by decide
theorem test_iscanon_near_miss : viewAfter (exec (.iscanon 0x36C#10) State.reset) = okView 0x00000001#32 := by decide
theorem test_inc_carry : viewAfter (exec (.inc 0x0FE#10 5#10) State.reset) = okView 0x00000403#32 := by decide
theorem test_inc_k_1001 : viewAfter (exec (.inc 0x000#10 1001#10) State.reset) = faultView 0x4#4 := by decide
theorem test_dec_borrow : viewAfter (exec (.dec 0x000#10 1#10) State.reset) = okView 0x000004FF#32 := by decide
theorem test_dec_k_1000 : viewAfter (exec (.dec 0x000#10 1000#10) State.reset) = okView 0x00000400#32 := by decide
theorem test_add_largest : viewAfter (exec (.add 0x0FF#10 0x0FF#10 true) State.reset) = okView 0x000004FF#32 := by decide
theorem test_add_noncanonical : viewAfter (exec (.add 0x1FF#10 0x2FF#10 false) State.reset) = okView 0x000004FE#32 := by
  decide
theorem test_sub_borrow : viewAfter (exec (.sub 0x003#10 0x005#10 false) State.reset) = okView 0x000004FE#32 := by decide
theorem test_sub_lowest : viewAfter (exec (.sub 0x000#10 0x0FF#10 true) State.reset) = okView 0x00000400#32 := by decide
theorem test_cmp_lowest : viewAfter (exec (.cmp 0x000#10 0x0FF#10) State.reset) = okView 0xFFFFFC19#32 := by decide
theorem test_cmp_equal_values : viewAfter (exec (.cmp 0x16E#10 0x36E#10) State.reset) = okView 0x00000000#32 := by decide

/-! ## Single steps -/

/-- The step runs a placed word: 95_test_vectors.md P4, first command. -/
theorem test_step_runs_placed : viewAfter (step (State.reset.withFetchWord 32 0x100003E7)) = okView 0x000000FF#32 := by
  decide

/-- A fault status leaves RSP_VALID = 1 and no result (60_exceptions.md R152; P4, second command). -/
theorem test_step_fault_status : viewAfter (step (State.reset.withFetchWord 32 0x100003E8)) = faultView 0x3#4 := by decide

/-- The command after a fault runs normally (R152; P4, third command). -/
theorem test_step_after_fault :
    viewAfter (step ((fullState none 0x3#4 []).withFetchWord 32 0x200000FF)) = okView 0x000003E7#32 := by decide

/-- An all-zero word faults (30_encoding.md R65). -/
theorem test_step_zero_word : viewAfter (step (State.reset.withFetchWord 32 0)) = faultView 0x1#4 := by decide

/-- A command that waits keeps its word whatever is offered (20_memory.md R50, 70_reset_and_hazards.md R183). -/
theorem test_step_busy_ignores_offer :
    phaseAfter (step (busyState 0x100003E7#32 2 [offer 0x20000000#32])) = some (.busy 0x100003E7#32 1) := by decide

/-- Reset discards a command whose response is due (R180). -/
theorem test_step_reset_discards :
    phaseAfter (step (busyState 0x100003E7#32 0 [resetInput])) = some .empty := by decide

/-- Reset keeps the run's fault record (D19). -/
theorem test_reset_keeps_record :
    (({ fullState none 0x3#4 [] with faultRecord := [.domainValue] } : State).resetEdge).faultRecord = [.domainValue] := by
  decide

/-- No command is accepted before the tables hold their contents (R182). -/
theorem test_step_tables_not_ready :
    phaseAfter (step { State.reset with tablesReady := false, inputs := [offer 0x20000000#32] }) = some .empty := by decide

/-- A read after reset is a fault (10_state.md R26, R32). -/
theorem test_read_after_reset : faultOf (step { State.reset with inputs := [readInput] }) = some .readNotValid := by decide

/-- A read of RESULT after a fault is a fault (R26, R152). -/
theorem test_read_after_fault : faultOf (step (fullState none 0x4#4 [readInput])) = some .readNoResult := by decide

/-- A read of a response returns it (R26). -/
theorem test_read_result :
    observedAfter (step (fullState (some 0xFE#32) 0x0#4 [readInput])) = some [.result 0xFE#32] := by decide

/-- A reserved STATUS code is not returned (93_implementation_defined.md U8). -/
theorem test_reserved_status :
    faultOf (step (fullState none 0x5#4 [{ quietInput with readStatus := true }])) = some .statusReserved := by decide

/-! ## Assembler (30_encoding.md R69, R70; words of 95_test_vectors.md P1 and P2) -/

/-- `ADD 0x3CF, 0x111, 0` -/
theorem test_assemble_add :
    assembleLine ['A', 'D', 'D', ' ', '0', 'x', '3', 'C', 'F', ',', ' ', '0', 'x', '1', '1', '1', ',', ' ', '0'] =
      .ok (some 0x701113CF#32) := by decide

/-- `DEC 0x001 ; step` is the pseudo-instruction with k = 1. -/
theorem test_assemble_dec_pseudo :
    assembleLine ['D', 'E', 'C', ' ', '0', 'x', '0', '0', '1', ' ', ';', ' ', 's'] = .ok (some 0x60001001#32) := by decide

/-- `INC 0, 1024` does not fit; a comment alone is no command. -/
theorem test_assemble_errors :
    assembleLine ['I', 'N', 'C', ' ', '0', ',', ' ', '1', '0', '2', '4'] = .error .operandTooWide ∧
    assembleLine ['A', 'D', 'D', ' ', '0', ',', '0', ',', '2'] = .error .operandTooWide ∧
    assembleLine [' ', ';', 'x'] = .ok none ∧
    assembleLine ['N', 'O', 'P', ' ', '1'] = .error .unknownStatement ∧
    assembleLine ['E', 'N', 'C', ' ', '0', 'x'] = .error .badNumber := by decide

/-! ## Witnesses: concrete values that meet all hypotheses of a statement, at the bounds of their ranges -/

theorem witness_EncodeDecodeRoundTrip : decode 0x100003E6#32 = .ok (.int2dpd 998#10) := test_decode_int2dpd

theorem witness_CommandWordFields :
    rsv1Field 0x712C3256#32 = 0#2 ∧ rsv2Field 0x712C3256#32 = 0#2 ∧ rsv3Field 0x712C3256#32 = 0#3 := by decide

theorem witness_OpcodeRowSelectsCommand :
    (⟨0x8#4, 0x80000000#32, 0xFEC00C00#32⟩ : OpcodeRow) ∈ opcodeTable ∧
    0x81005005#32 &&& 0xFEC00C00#32 = 0x80000000#32 := by decide

theorem witness_IllegalOpForReservedOpcodes :
    opField 0x0FFFFFFF#32 = 0x0#4 ∧ 0xA ≤ (opField 0xA0000000#32).toNat ∧ 0xA ≤ (opField 0xF0000000#32).toNat := by decide

theorem witness_ReservedBitsForNonzeroFields :
    0x1 ≤ (opField 0x10000400#32).toNat ∧ (opField 0x10000400#32).toNat ≤ 0x9 ∧
    decode 0x10000400#32 = .error .reservedBits ∧
    0x1 ≤ (opField 0x91000000#32).toNat ∧ (opField 0x91000000#32).toNat ≤ 0x9 ∧
    decode 0x91000000#32 = .error .reservedBits := by decide

theorem witness_RomEncIsEncodingTable : (999 : Nat) ≤ 999 ∧ (999 : Nat) < 1000 := by decide

theorem witness_DecodeRangeAndRedundancy : (999 : Nat) ≤ 999 ∧ 888 ∈ [888, 889, 898, 899, 988, 989, 998, 999] := by decide

theorem witness_EncodeInjectiveAndUndone : (999 : Nat) ≤ 999 ∧ romEnc 999 = romEnc 999 := by decide

theorem witness_Int2dpdAnswersCode : (999#10).toNat ≤ 999 ∧ 999 < (1000#10).toNat := by decide

theorem witness_IncAnswersTaggedSum : (1000#10).toNat ≤ 1000 ∧ 1000 < (1001#10).toNat := by decide

theorem witness_DecAnswersTaggedDifference : (1000#10).toNat ≤ 1000 ∧ 1000 < (1001#10).toNat := by decide

theorem witness_EveryInstructionCompletes :
    (Instr.inc 0x3FF#10 1000#10).wellFormed = true ∧ (Instr.inc 0x3FF#10 1001#10).wellFormed = false ∧
    (Instr.int2dpd 1000#10).wellFormed = false := by decide

theorem witness_InstructionFrame :
    exec (.dpd2int 0x0FF#10) State.reset = .next (State.reset.complete 999#32) ∧
    exec (.inc 0x000#10 1001#10) State.reset = .next (State.reset.raiseFault .domainK) := ⟨rfl, rfl⟩

theorem witness_ResponseDependsOnWordOnly :
    completeCommand 0x200000FF#32 State.reset = .next (State.reset.complete 999#32) ∧
    completeCommand 0x200000FF#32 (fullState none 0x3#4 []) = .next ((fullState none 0x3#4 []).complete 999#32) :=
  ⟨rfl, rfl⟩

theorem witness_FaultRecordNeverCleared :
    viewAfter (step (busyState 0x100003E8#32 0 [])) = faultView 0x3#4 ∧
    (busyState 0x100003E8#32 0 []).input.rst = false ∧
    (busyState 0x100003E8#32 0 []).phase = .busy 0x100003E8#32 0 ∧
    execute 0x100003E8#32 = some (.fault .domainValue) := by decide

/-- An edge that writes no fault: the machine is not BUSY. -/
theorem witness_FaultRecordNeverCleared_quiet :
    step State.reset = .next State.reset ∧
    ∀ cmd c, State.reset.input.rst = false → State.reset.phase = .busy cmd 0 → execute cmd ≠ some (.fault c) :=
  ⟨rfl, fun _ _ _ h => by cases h⟩

theorem witness_CodecLaws : (999#10).toNat ≤ 999 := by decide

theorem witness_SumLaws : (1000#10).toNat ≤ 1000 := by decide

theorem witness_DifferenceLaws : (1000#10).toNat ≤ 1000 := by decide

theorem witness_CarryTaggedResults :
    Instr.dec 0x000#10 1000#10 ∈ [Instr.inc 0x000#10 1000#10, Instr.dec 0x000#10 1000#10,
      Instr.add 0x000#10 1000#10 true, Instr.sub 0x000#10 1000#10 true] ∧
    respond (.dec 0x000#10 1000#10) = some (.ok 0x400#32) := by decide

theorem witness_CodecResultsBelow1024 :
    Instr.canon 0x3F7#10 ∈ [Instr.int2dpd 0x3F7#10, Instr.dpd2int 0x3F7#10, Instr.canon 0x3F7#10, Instr.iscanon 0x3F7#10] ∧
    respond (.canon 0x3F7#10) = some (.ok 0x3F7#32) := by decide

theorem witness_IntermediateSumsInRange : (1000#10).toNat ≤ 1000 := by decide

theorem witness_StepRunsDecodedInstruction :
    (busyState 0x100003E7#32 0 [offer 0#32]).phase = .busy 0x100003E7#32 0 ∧
    decode 0x100003E7#32 = .ok (.int2dpd 999#10) ∧ (busyState 0x100003E7#32 0 [offer 0#32]).input.rst = false ∧
    (busyState 0x100003E7#32 0 [offer 0#32]).input.readResult = false ∧
    (busyState 0x100003E7#32 0 [offer 0#32]).input.readStatus = false := by decide

theorem witness_StepFaultsUndecodedWord :
    (busyState 0x10000400#32 0 []).phase = .busy 0x10000400#32 0 ∧ decode 0x10000400#32 = .error .reservedBits ∧
    (busyState 0x10000400#32 0 []).input.rst = false ∧ (busyState 0x10000400#32 0 []).input.readResult = false ∧
    (busyState 0x10000400#32 0 []).input.readStatus = false := by decide

theorem witness_OfferedCommandIsAccepted :
    (fullState none 0x3#4 [offer 0x200000FF#32]).rdy = true ∧
    (fullState none 0x3#4 [offer 0x200000FF#32]).input.rst = false ∧
    (fullState none 0x3#4 [offer 0x200000FF#32]).input.req = true ∧
    (fullState none 0x3#4 [offer 0x200000FF#32]).input.readResult = false ∧
    (fullState none 0x3#4 [offer 0x200000FF#32]).input.readStatus = false := by decide

theorem witness_BusyIgnoresRequests :
    (busyState 0x100003E7#32 1 [offer 0x200000FF#32]).phase = .busy 0x100003E7#32 (0 + 1) ∧
    (busyState 0x100003E7#32 1 [offer 0x200000FF#32]).input.rst = false ∧
    (busyState 0x100003E7#32 1 [offer 0x200000FF#32]).input.readResult = false ∧
    (busyState 0x100003E7#32 1 [offer 0x200000FF#32]).input.readStatus = false := by decide

theorem witness_HeldRequestIsAccepted :
    (busyState 0x100003E7#32 1 (List.replicate 3 (offer 0x200000FF#32) ++ [])).phase = .busy 0x100003E7#32 1 ∧
    (busyState 0x100003E7#32 1 (List.replicate 3 (offer 0x200000FF#32) ++ [])).tablesReady = true ∧
    (offer 0x200000FF#32).rst = false ∧ (offer 0x200000FF#32).req = true ∧
    (offer 0x200000FF#32).readResult = false ∧ (offer 0x200000FF#32).readStatus = false ∧
    (busyState 0x100003E7#32 1 (List.replicate 3 (offer 0x200000FF#32) ++ [])).inputs =
      List.replicate (1 + 2) (offer 0x200000FF#32) ++ [] := by decide

theorem witness_IdleKeepsLatch :
    (State.reset.phase = .empty ∧ State.reset.input.rst = false ∧ State.reset.input.req = false ∧
      State.reset.input.readResult = false ∧ State.reset.input.readStatus = false) ∧
    ((fullState none 0x3#4 []).phase = .full ∧ (fullState none 0x3#4 []).input.rst = false ∧
      (fullState none 0x3#4 []).input.req = false ∧ (fullState none 0x3#4 []).input.readResult = false ∧
      (fullState none 0x3#4 []).input.readStatus = false) := by decide

/-- A loading implementation before its tables are loaded, with a command offered. -/
def unloadedState : State := { State.reset with tablesReady := false, inputs := [offer 0x200000FF#32] }

theorem witness_NoCommandBeforeTables :
    unloadedState.tablesReady = false ∧ unloadedState.phase = .empty ∧ unloadedState.input.rst = false ∧
    unloadedState.input.readResult = false ∧ unloadedState.input.readStatus = false := by decide

theorem witness_ResetEdgesLeaveEmpty :
    [resetInput, resetInput] ≠ [] ∧
    (∀ p ∈ [resetInput, resetInput], p.rst = true ∧ p.readResult = false ∧ p.readStatus = false) ∧
    (busyState 0x100003E7#32 0 [resetInput, resetInput]).inputs = [resetInput, resetInput] ++ [] ∧
    (busyState 0x100003E7#32 0 [resetInput, resetInput]).tablesReady = true := by decide

theorem witness_ReadWithoutValueFaults :
    (State.reset.rspValid = false ∧ ({ State.reset with inputs := [readInput] } : State).input.readResult = true) ∧
    (busyState 0x100003E7#32 0 [{ quietInput with readStatus := true }]).rspValid = false ∧
    (busyState 0x100003E7#32 0 [{ quietInput with readStatus := true }]).input.readStatus = true ∧
    (fullState none 0x1#4 [readInput]).rspValid = true ∧ (fullState none 0x1#4 [readInput]).latch.status = some 0x1#4 ∧
    (0x1#4 : StatusCode) ≠ 0x0#4 ∧ (fullState none 0x1#4 [readInput]).input.readResult = true := by decide

theorem witness_ReadReturnsLatch :
    (fullState (some 0xFE#32) 0x0#4 [readInput]).latch =
      { rspValid := true, result := some 0xFE#32, status := some 0x0#4 } ∧
    (fullState none 0x4#4 [{ quietInput with readStatus := true }]).latch =
      { rspValid := true, result := none, status := some (causeCode .domainK) } ∧
    (fullState none 0x4#4 [{ quietInput with readStatus := true }]).input.readResult = false ∧
    (fullState none 0x4#4 [{ quietInput with readStatus := true }]).input.readStatus = true := by decide

theorem witness_ReadsDoNotDisturb :
    (fullState (some 0xFE#32) 0x0#4 [readInput]).inputs = readInput :: [] ∧
    (fullState (some 0xFE#32) 0x0#4 [readInput]).hostReads =
      .ok { fullState (some 0xFE#32) 0x0#4 [readInput] with observed := [] ++ [.result 0xFE#32] } ∧
    step (fullState (some 0xFE#32) 0x0#4 [quietInput]) = .next (fullState (some 0xFE#32) 0x0#4 []) :=
  ⟨rfl, rfl, rfl⟩

/-- A command offered after reset, and as many quiet edges after it as its LATENCY. -/
def flightState : State :=
  { State.reset with
    inputs := offer 0x100003E7#32 :: (List.replicate (Config.latency (opField 0x100003E7#32)) quietInput ++ []) }

theorem witness_EdgesRefineTransaction :
    flightState.rdy = true ∧
    flightState.inputs =
      offer 0x100003E7#32 :: (List.replicate (Config.latency (opField 0x100003E7#32)) quietInput ++ []) ∧
    (List.replicate (Config.latency (opField 0x100003E7#32)) quietInput).length =
      Config.latency (opField (offer 0x100003E7#32).cmd) ∧
    (offer 0x100003E7#32).rst = false ∧ (offer 0x100003E7#32).req = true ∧ (offer 0x100003E7#32).readResult = false ∧
    (offer 0x100003E7#32).readStatus = false ∧
    (∀ q ∈ List.replicate (Config.latency (opField 0x100003E7#32)) quietInput,
      q.rst = false ∧ q.readResult = false ∧ q.readStatus = false) := by
  refine ⟨rfl, rfl, List.length_replicate, rfl, rfl, rfl, rfl, ?_⟩
  intro q hq
  rw [List.eq_of_mem_replicate hq]
  exact ⟨rfl, rfl, rfl⟩

theorem witness_StepKeepsInvariant :
    (fullState (some 0xFE#32) 0x0#4 []).Inv ∧
    step (fullState (some 0xFE#32) 0x0#4 []) = .next (fullState (some 0xFE#32) 0x0#4 []) := by
  refine ⟨⟨by simp [State.validExactlyWhenFull, fullState], .inr (.inl ⟨0xFE#32, rfl, rfl⟩), trivial, .inl rfl, ?_, ?_⟩, rfl⟩
  · intro c h
    cases c <;> exact absurd h (by decide)
  · intro c h
    cases h

end Sys2Proof.Tests
end

section
/-! PROOFS. The bytes of a word and the lanes of a bus adapter (20_memory.md R44). A word is its four bytes, and the
adapter's two maps say the same of each byte: lane `l` holds byte `order l`. -/

namespace Sys2Proof.Machine

theorem byteOf_getElem (w : Word) (i : Fin 4) (j : Nat) (hj : j < 8) :
    (byteOf w i)[j] = w.getLsbD (8 * i.val + j) := by
  simp [byteOf]

/-- A word is determined by its four bytes: bit `n` is bit `n % 8` of byte `n / 8`. -/
theorem eq_of_byteOf_eq {w w' : Word} (h : ∀ i, byteOf w i = byteOf w' i) : w = w' := by
  apply BitVec.eq_of_getLsbD_eq
  intro n hn
  have hmod : n % 8 < 8 := Nat.mod_lt n (by decide)
  have hbit : (byteOf w ⟨n / 8, by omega⟩)[n % 8] = (byteOf w' ⟨n / 8, by omega⟩)[n % 8] := by rw [h]
  simpa only [byteOf_getElem, Nat.div_add_mod] using hbit

@[simp] theorem busLanes_get (order : Equiv.Perm (Fin 4)) (w : Word) (lane : Fin 4) :
    (busLanes order w).get lane = byteOf w (order lane) :=
  Vector.get_ofFn _ lane

theorem byteOf_or (w w' : Word) (i : Fin 4) : byteOf (w ||| w') i = byteOf w i ||| byteOf w' i := by
  apply BitVec.eq_of_getElem_eq
  intro j hj
  simp [byteOf_getElem]

/-- The word that has `b` as its byte `k` and is zero elsewhere. -/
def wordOfByte (k : Fin 4) (b : Byte) : Word := b.setWidth 32 <<< (8 * k.val)

theorem byteOf_wordOfByte_same (k : Fin 4) (b : Byte) : byteOf (wordOfByte k b) k = b := by
  apply BitVec.eq_of_getElem_eq
  intro j hj
  have hword : 8 * k.val + j < 32 := by omega
  simp [byteOf_getElem, wordOfByte, hword, BitVec.getLsbD_eq_getElem hj]

theorem byteOf_wordOfByte_of_ne {i k : Fin 4} (h : i ≠ k) (b : Byte) : byteOf (wordOfByte k b) i = 0#8 := by
  apply BitVec.eq_of_getElem_eq
  intro j hj
  rcases lt_or_gt_of_ne (Fin.val_ne_of_ne h) with below | above
  · have hshift : 8 * i.val + j < 8 * k.val := by omega
    simp [byteOf_getElem, wordOfByte, hshift]
  · have hpast : 8 ≤ 8 * i.val + j - 8 * k.val := by omega
    simp [byteOf_getElem, wordOfByte, BitVec.getLsbD_of_ge _ _ hpast]

theorem busWord_eq_or_wordOfByte (order : Equiv.Perm (Fin 4)) (lanes : Vector Byte 4) :
    busWord order lanes =
      wordOfByte 3 (lanes.get (order.symm 3)) ||| wordOfByte 2 (lanes.get (order.symm 2)) |||
        wordOfByte 1 (lanes.get (order.symm 1)) ||| wordOfByte 0 (lanes.get (order.symm 0)) := by
  simp [busWord, wordOfByte]

@[simp] theorem byteOf_busWord (order : Equiv.Perm (Fin 4)) (lanes : Vector Byte 4) (i : Fin 4) :
    byteOf (busWord order lanes) i = lanes.get (order.symm i) := by
  rw [busWord_eq_or_wordOfByte]
  fin_cases i <;> simp [byteOf_or, byteOf_wordOfByte_same, byteOf_wordOfByte_of_ne]

theorem busWord_busLanes (order : Equiv.Perm (Fin 4)) (w : Word) : busWord order (busLanes order w) = w :=
  eq_of_byteOf_eq fun i => by simp only [byteOf_busWord, busLanes_get, Equiv.apply_symm_apply]

theorem busLanes_busWord (order : Equiv.Perm (Fin 4)) (lanes : Vector Byte 4) :
    busLanes order (busWord order lanes) = lanes := by
  apply Vector.ext
  intro l hl
  show (busLanes order (busWord order lanes)).get ⟨l, hl⟩ = lanes.get ⟨l, hl⟩
  simp only [busLanes_get, byteOf_busWord, Equiv.symm_apply_apply]

/-- Settles O60: each direction is one of the two round trips, read off byte by byte. -/
theorem busAdapterCarriesWords : Obligations.BusAdapterCarriesWords :=
  fun order => ⟨busWord_busLanes order, busLanes_busWord order⟩

end Sys2Proof.Machine
end

section
/-! PROOFS. The ports and the host's reads of them (10_state.md R24 to R26, 60_exceptions.md R150, R152): what each read
returns, by what the latch holds, and what the reads of one edge leave. -/

namespace Sys2Proof.Machine

/-- RDY by its two conditions (10_state.md R25, 70_reset_and_hazards.md R182). -/
theorem rdy_iff {s : State} : s.rdy = true ↔ phaseBusy s.phase = false ∧ s.tablesReady = true := by
  simp [State.rdy]

theorem view_eq_none {s : State} (h : s.latch.rspValid = false) : s.view = none := by
  simp [State.view, h]

theorem readStatus_eq_readNotValid {s : State} (h : s.rspValid = false) : s.readStatus = .error .readNotValid := by
  have hv : s.latch.rspValid = false := h
  simp [State.readStatus, hv]

theorem readResult_eq_readNotValid {s : State} (h : s.rspValid = false) : s.readResult = .error .readNotValid := by
  have hv : s.latch.rspValid = false := h
  simp [State.readResult, hv]

/-- Under a STATUS other than OK a read of RESULT is a fault, whatever RESULT holds (R26, R152). -/
theorem readResult_eq_readNoResult {s : State} {c : StatusCode} (hv : s.rspValid = true)
    (hs : s.latch.status = some c) (hc : c ≠ statusOk) : s.readResult = .error .readNoResult := by
  have hv' : s.latch.rspValid = true := hv
  cases hr : s.latch.result <;> simp [State.readResult, hv', hs, hr, hc]

theorem readResult_of_latch {s : State} {r : Word}
    (h : s.latch = { rspValid := true, result := some r, status := some statusOk }) : s.readResult = .ok r := by
  simp [State.readResult, h]

theorem readStatus_of_latch {s : State} {result : Option Word} {c : StatusCode}
    (h : s.latch = { rspValid := true, result := result, status := some c }) (hc : c.toNat ≤ statusMax) :
    s.readStatus = .ok c := by
  simp [State.readStatus, h, hc]

/-- A read of STATUS never returns a reserved code (93_implementation_defined.md U8). -/
theorem readStatus_ok_le {s : State} {c : StatusCode} (h : s.readStatus = .ok c) : c.toNat ≤ statusMax := by
  unfold State.readStatus at h
  split at h
  · split at h
    · cases h; assumption
    · cases h
  · cases h

theorem sampleResult_of_answered {s : State} {r : Word}
    (hr : s.input.readResult = true → s.readResult = .ok r) :
    s.sampleResult = .ok { s with observed := s.observed ++ if s.input.readResult then [.result r] else [] } := by
  unfold State.sampleResult
  cases h : s.input.readResult with
  | false => simp
  | true => simp [hr h]

theorem sampleStatus_of_answered {s : State} {c : StatusCode}
    (hc : s.input.readStatus = true → s.readStatus = .ok c) :
    s.sampleStatus = .ok { s with observed := s.observed ++ if s.input.readStatus then [.status c] else [] } := by
  unfold State.sampleStatus
  cases h : s.input.readStatus with
  | false => simp
  | true => simp [hc h]

theorem hostReads_ok_iff {s s' : State} :
    s.hostReads = .ok s' ↔ ∃ s1, s.sampleResult = .ok s1 ∧ s1.sampleStatus = .ok s' := by
  unfold State.hostReads
  cases s.sampleResult <;> simp

/-- The reads of one edge that are answered append what they return, RESULT first (R26; log entry 2). -/
theorem hostReads_of_answered {s : State} {r : Word} {c : StatusCode}
    (hr : s.input.readResult = true → s.readResult = .ok r)
    (hc : s.input.readStatus = true → s.readStatus = .ok c) :
    s.hostReads = .ok { s with observed := s.observed ++
      ((if s.input.readResult then [.result r] else []) ++ if s.input.readStatus then [.status c] else []) } := by
  refine hostReads_ok_iff.mpr ⟨_, sampleResult_of_answered hr, ?_⟩
  rw [← List.append_assoc]
  exact sampleStatus_of_answered (s := { s with observed := _ }) hc

theorem hostReads_of_readResult_error {s : State} {f : Fault} (h : s.input.readResult = true)
    (hf : s.readResult = .error f) : s.hostReads = .error f := by
  simp [State.hostReads, State.sampleResult, h, hf]

/-- While RSP_VALID = 0 an edge with any read ends its reads in the same fault (R26, R184). -/
theorem hostReads_of_not_valid {s : State} (hv : s.rspValid = false)
    (h : s.input.readResult = true ∨ s.input.readStatus = true) : s.hostReads = .error .readNotValid := by
  cases hr : s.input.readResult with
  | true => exact hostReads_of_readResult_error hr (readResult_eq_readNotValid hv)
  | false =>
    have hs : s.input.readStatus = true := by simpa [hr] using h
    simp [State.hostReads, State.sampleResult, State.sampleStatus, hr, hs, readStatus_eq_readNotValid hv]

theorem sampleResult_ok {s s' : State} (h : s.sampleResult = .ok s') :
    s' = s ∨ ∃ r, s' = { s with observed := s.observed ++ [.result r] } := by
  unfold State.sampleResult at h
  split at h <;> cases h
  · exact .inl rfl
  · exact .inr ⟨_, rfl⟩

theorem sampleStatus_ok {s s' : State} (h : s.sampleStatus = .ok s') :
    s' = s ∨ ∃ c, s.readStatus = .ok c ∧ s' = { s with observed := s.observed ++ [.status c] } := by
  unfold State.sampleStatus at h
  split at h <;> cases h
  · exact .inl rfl
  · next hc => exact .inr ⟨_, hc, rfl⟩

/-- The reads of an edge add no STATUS to what was observed but the one the port returns. -/
theorem status_mem_observed_of_hostReads {s s' : State} (h : s.hostReads = .ok s') {c : StatusCode}
    (hc : PortRead.status c ∈ s'.observed) : PortRead.status c ∈ s.observed ∨ s.readStatus = .ok c := by
  obtain ⟨s1, h1, h2⟩ := hostReads_ok_iff.mp h
  obtain ⟨hport, hkept⟩ :
      s1.readStatus = s.readStatus ∧ (PortRead.status c ∈ s1.observed → PortRead.status c ∈ s.observed) := by
    rcases sampleResult_ok h1 with rfl | ⟨r, rfl⟩
    · exact ⟨rfl, id⟩
    · exact ⟨rfl, by simp⟩
  rcases sampleStatus_ok h2 with rfl | ⟨d, hd, rfl⟩
  · exact .inl (hkept hc)
  · rw [hport] at hd
    rcases List.mem_append.mp hc with hold | hnew
    · exact .inl (hkept hold)
    · cases List.mem_singleton.mp hnew
      exact .inr hd

theorem step_of_hostReads_error {s : State} {f : Fault} (h : s.hostReads = .error f) : step s = .fault f := by
  simp [step, clockEdge, h]

theorem step_of_hostReads_ok {s s' : State} (h : s.hostReads = .ok s') :
    step s = edgeAction s.input s.rdy s'.sampled := by
  simp [step, clockEdge, h]

/-- Settles O49: at each of the three reads the host's reads of the edge end in the fault, and the step with them. -/
theorem readWithoutValueFaults : Obligations.ReadWithoutValueFaults := by
  intro s
  refine ⟨fun hv hr => ?_, fun hv hs => ?_, fun c hv hs hc hr => ?_⟩
  · exact step_of_hostReads_error (hostReads_of_not_valid hv (.inl hr))
  · exact step_of_hostReads_error (hostReads_of_not_valid hv (.inr hs))
  · exact step_of_hostReads_error (hostReads_of_readResult_error hr (readResult_eq_readNoResult hv hs hc))

/-- Settles O50: in both legal forms of the latch each read the host makes is answered with what the port holds. -/
theorem readReturnsLatch : Obligations.ReadReturnsLatch := by
  refine ⟨fun s r h => ?_, fun s c h hr hs => ?_⟩
  · exact hostReads_of_answered (fun _ => readResult_of_latch h) (fun _ => readStatus_of_latch h (by decide))
  · have answered := hostReads_of_answered (s := s) (r := 0#32) (c := causeCode c) (by simp [hr])
      (fun _ => readStatus_of_latch h (causeCode_le c))
    simpa [hr, hs] using answered

end Sys2Proof.Machine
end

section
/-! PROOFS. The delivery of a response (10_state.md R20, R24; 60_exceptions.md R152): every command word has a response,
and what its completion writes is a function of that response. -/

namespace Sys2Proof.Machine

/-- What a response adds to the run's fault record (60_exceptions.md R152). -/
def responseCauses : Response → List Cause
  | .ok _ => []
  | .fault c => [c]

/-- The state once a response is in the latch. -/
def State.answered (r : Response) (s : State) : State :=
  { s with
    phase := .full
    latch := { rspValid := true, result := responseResult r, status := some (responseStatus r) }
    faultRecord := s.faultRecord ++ responseCauses r }

theorem deliver_some (r : Response) (s : State) : deliver (some r) s = .next (s.answered r) := by
  cases r with
  | ok w => simp [deliver, State.answered, State.complete, responseResult, responseStatus, responseCauses]
  | fault c => rfl

theorem sumResponse_isSome {sum : Nat} (h : sum ≤ 1999) : ∃ r, sumResponse sum = some r := by
  obtain ⟨code, _, hr⟩ := sumResponse_some h
  exact ⟨_, hr⟩

theorem differenceResponse_isSome {d : Int} (lo : -1000 ≤ d) (hi : d ≤ 999) : ∃ r, differenceResponse d = some r := by
  obtain ⟨code, _, hr⟩ := differenceResponse_some lo hi
  exact ⟨_, hr⟩

/-- Every instruction has a response: ROM_ENC has an entry wherever one reads it (20_memory.md R43). -/
theorem respond_isSome (i : Instr) : ∃ r, respond i = some r := by
  cases i with
  | int2dpd value =>
    by_cases h : Config.valueMax < value.toNat
    · exact ⟨_, if_pos h⟩
    · obtain ⟨code, hc⟩ := romEnc_isSome (Nat.not_lt.mp h)
      exact ⟨_, (if_neg h).trans (by rw [hc]; rfl)⟩
  | dpd2int code => exact ⟨_, rfl⟩
  | canon code =>
    obtain ⟨c, hc⟩ := romEnc_isSome (valueOf_le code)
    exact ⟨_, by rw [respond, canonResponse, hc]; rfl⟩
  | iscanon code => exact ⟨_, rfl⟩
  | inc code k =>
    by_cases h : Config.kMax < k.toNat
    · exact ⟨_, if_pos h⟩
    · have hk : k.toNat ≤ 1000 := Nat.not_lt.mp h
      have hv := valueOf_le code
      obtain ⟨r, hr⟩ := sumResponse_isSome (sum := valueOf code + k.toNat) (by omega)
      exact ⟨r, (if_neg h).trans hr⟩
  | dec code k =>
    by_cases h : Config.kMax < k.toNat
    · exact ⟨_, if_pos h⟩
    · have hk : k.toNat ≤ 1000 := Nat.not_lt.mp h
      have hv := valueOf_le code
      obtain ⟨r, hr⟩ := differenceResponse_isSome (d := (valueOf code : Int) - (k.toNat : Int)) (by omega) (by omega)
      exact ⟨r, (if_neg h).trans hr⟩
  | add a b ci =>
    have ha := valueOf_le a
    have hb := valueOf_le b
    have hci := ci.toNat_le
    exact sumResponse_isSome (by omega)
  | sub a b bi =>
    have ha := valueOf_le a
    have hb := valueOf_le b
    have hbi := bi.toNat_le
    exact differenceResponse_isSome (by omega) (by omega)
  | cmp a b => exact ⟨_, rfl⟩

theorem execute_isSome (cmd : Word) : ∃ r, execute cmd = some r := by
  unfold execute
  cases decode cmd with
  | ok i => exact respond_isSome i
  | error c => exact ⟨_, rfl⟩

/-- A command completes in every state, with the response of its word (R20, R151, R158). -/
theorem completeCommand_of_execute {cmd : Word} {r : Response} (h : execute cmd = some r) (s : State) :
    completeCommand cmd s = .next (s.answered r) := by
  rw [completeCommand_eq_deliver, h, deliver_some]

/-- Settles O29: an instruction delivers its response, and a delivered response is a completion or a fault. -/
theorem instructionFrame : Obligations.InstructionFrame := by
  intro i s t h
  rw [exec_eq_deliver] at h
  rcases deliver_next h with ⟨r, _, rfl⟩ | ⟨c, _, rfl⟩
  · exact ⟨rfl, rfl, rfl, rfl, rfl, .inl ⟨rfl, by simp, rfl⟩⟩
  · exact ⟨rfl, rfl, rfl, rfl, rfl, .inr ⟨c, rfl, rfl, rfl⟩⟩

/-- Settles O30: both states take the one response of the word. -/
theorem responseDependsOnWordOnly : Obligations.ResponseDependsOnWordOnly := by
  intro w s s' t t' h h'
  obtain ⟨r, hr⟩ := execute_isSome w
  rw [completeCommand_of_execute hr] at h h'
  cases h
  cases h'
  exact ⟨rfl, rfl⟩

/-- Settles O25: the two records are those of the definitions. -/
theorem completionWritesLatchWhole : Obligations.CompletionWritesLatchWhole :=
  ⟨fun _ _ => rfl, fun _ _ => rfl⟩

/-- A plain result is its code as a number (00_scope.md R12). -/
@[simp] theorem plainResult_toNat (code : Declet) : (plainResult code).toNat = code.toNat :=
  BitVec.toNat_setWidth_of_le (by decide)

/-- A result of the codec or the normalizer is a plain code or value, without a flag (10_state.md R27). -/
theorem respond_codec_eq_plainResult {a : Declet} {i : Instr} {r : Word}
    (hi : i ∈ [Instr.int2dpd a, Instr.dpd2int a, Instr.canon a, Instr.iscanon a]) (h : respond i = some (.ok r)) :
    ∃ code, r = plainResult code := by
  have entry {o : Option Declet} (ho : (o.map fun c => Response.ok (plainResult c)) = some (.ok r)) :
      ∃ code, r = plainResult code := by
    obtain ⟨c, _, hc⟩ := Option.map_eq_some_iff.mp ho
    cases hc
    exact ⟨c, rfl⟩
  simp only [List.mem_cons, List.not_mem_nil, or_false] at hi
  rcases hi with rfl | rfl | rfl | rfl
  · rw [respond, int2dpdResponse] at h
    split at h
    · cases h
    · exact entry h
  · cases h
    exact ⟨_, rfl⟩
  · exact entry h
  · cases h
    exact ⟨if nonCanonicalBits a then 0#10 else 1#10, by split <;> rfl⟩

/-- Settles O38: such a result is a plain 10-bit value. -/
theorem codecResultsBelow1024 : Obligations.CodecResultsBelow1024 := by
  intro a i hi r h
  obtain ⟨code, rfl⟩ := respond_codec_eq_plainResult hi h
  exact ⟨by simpa using code.isLt, by simp [plainResult]⟩

end Sys2Proof.Machine
end

section
/-! PROOFS. One edge (10_state.md R23 to R26): what the step is in each phase, and that only a host's bad read stops
it. -/

namespace Sys2Proof.Machine

/-- An edge at which RST = 0 and the host reads nothing; REQ and CMD are free. -/
def EdgeInput.undisturbed (p : EdgeInput) : Prop := p.rst = false ∧ p.readResult = false ∧ p.readStatus = false

theorem input_of_inputs {s : State} {p : EdgeInput} {rest : List EdgeInput} (h : s.inputs = p :: rest) :
    s.input = p := by
  rw [State.input, h]; rfl

/-- A response that is due is written on the sampled state (R25). -/
theorem step_due {s : State} {cmd : Word} (hq : s.input.undisturbed) (hp : s.phase = .busy cmd 0) :
    step s = completeCommand cmd s.sampled := by
  obtain ⟨hrst, hr, hs⟩ := hq
  exact (step_quiet hr hs).trans (edgeAction_due (s := s.sampled) hp hrst)

/-- A response that is not due waits one edge (R25). -/
theorem step_wait {s : State} {cmd : Word} {left : Nat} (hq : s.input.undisturbed)
    (hp : s.phase = .busy cmd (left + 1)) : step s = .next (s.sampled.wait cmd left) := by
  obtain ⟨hrst, hr, hs⟩ := hq
  exact (step_quiet hr hs).trans (edgeAction_wait (s := s.sampled) hp hrst)

/-- With no command in flight an offered one is accepted when RDY was 1 (R23). -/
theorem step_idle {s : State} (hq : s.input.undisturbed) (hp : phaseBusy s.phase = false) :
    step s = if s.input.req && s.rdy then .next (s.sampled.accept s.input.cmd) else .next s.sampled := by
  obtain ⟨hrst, hr, hs⟩ := hq
  exact (step_quiet hr hs).trans (edgeAction_idle (s := s.sampled) hp hrst)

theorem sampled_of_tablesReady {s : State} (h : s.tablesReady = true) :
    s.sampled = { s with inputs := s.inputs.tail } := by
  simp [State.sampled, h]

/-- Settles O40: the due word completes on the sampled state, and completing it is `exec` of what it decodes to. -/
theorem stepRunsDecodedInstruction : Obligations.StepRunsDecodedInstruction := by
  intro s cmd i hp hd hrst hr hs
  rw [step_due ⟨hrst, hr, hs⟩ hp, completeCommand, hd]
  rfl

/-- Settles O42: no command is in flight and RDY was 1, so the DDU accepts. -/
theorem offeredCommandIsAccepted : Obligations.OfferedCommandIsAccepted := by
  intro s hrdy hrst hreq hr hs
  obtain ⟨hidle, htables⟩ := rdy_iff.mp hrdy
  rw [step_idle ⟨hrst, hr, hs⟩ hidle, hreq, hrdy, sampled_of_tablesReady htables]
  rfl

/-- Settles O45: in EMPTY and FULL no command is in flight, and with none offered the DDU does nothing. -/
theorem idleKeepsLatch : Obligations.IdleKeepsLatch := by
  intro s hp hrst hreq hr hs
  have hidle : phaseBusy s.phase = false := by rcases hp with h | h <;> rw [h] <;> rfl
  rw [step_idle ⟨hrst, hr, hs⟩ hidle, hreq]
  rfl

/-- The DDU has a next state at every edge (60_exceptions.md R151, R158). -/
theorem edgeAction_isNext (p : EdgeInput) (ready : Bool) (s : State) : ∃ t, edgeAction p ready s = .next t := by
  unfold edgeAction
  split
  · exact ⟨_, rfl⟩
  · next cmd _ _ =>
    obtain ⟨r, hr⟩ := execute_isSome cmd
    exact ⟨_, completeCommand_of_execute hr s⟩
  · exact ⟨_, rfl⟩
  · exact ⟨_, rfl⟩
  · exact ⟨_, rfl⟩

/-- Settles O52: once the host's reads are answered, the DDU acts and has a next state. -/
theorem stepStopsOnlyOnBadRead : Obligations.StepStopsOnlyOnBadRead := by
  intro s
  cases h : s.hostReads with
  | ok s' =>
    rw [step_of_hostReads_ok h]
    exact .inl (edgeAction_isNext s.input s.rdy s'.sampled)
  | error f => exact .inr ⟨f, step_of_hostReads_error h, rfl⟩

/-- The DDU does not see the record of host reads (R24; log entry 8). -/
theorem edgeAction_observed {p : EdgeInput} {ready : Bool} {s t : State} (h : edgeAction p ready s = .next t)
    (seen : List PortRead) :
    edgeAction p ready { s with observed := seen } = .next { t with observed := seen } := by
  rcases edgeAction_next h with ⟨hrst, rfl⟩ | ⟨hrst, cmd, hp, hc⟩ | ⟨hrst, cmd, left, hp, rfl⟩ |
    ⟨hrst, hp, hreq, rfl, rfl⟩ | ⟨hrst, hp, hreq, rfl⟩
  · exact edgeAction_rst hrst
  · obtain ⟨r, hr⟩ := execute_isSome cmd
    rw [completeCommand_of_execute hr] at hc
    cases hc
    exact (edgeAction_due (s := { s with observed := seen }) hp hrst).trans (completeCommand_of_execute hr _)
  · exact edgeAction_wait hp hrst
  · exact (edgeAction_idle (s := { s with observed := seen }) hp hrst).trans (if_pos (by rw [hreq]; rfl))
  · exact (edgeAction_idle (s := { t with observed := seen }) hp hrst).trans (if_neg (by rw [hreq]; decide))

/-- Settles O51: the DDU acts on the same sampled state with or without the reads, but for their record. -/
theorem readsDoNotDisturb : Obligations.ReadsDoNotDisturb := by
  intro s t p rest seen hin hreads hstep
  have hinput : s.input = p := input_of_inputs hin
  rw [step_quiet rfl rfl] at hstep
  have hact : edgeAction s.input s.rdy s.sampled = .next t := by
    rw [← hstep]
    simp only [State.sampled, hin, hinput]
    rfl
  rw [step_of_hostReads_ok hreads]
  exact edgeAction_observed hact _

end Sys2Proof.Machine
end

section
/-! PROOFS. The invariant of the machine (10_state.md R25, R32; 60_exceptions.md R150, R152; 70_reset_and_hazards.md R182,
R187): it holds in the state after reset, the host's reads and the sampling of an edge keep it, and so does each thing
the DDU does. -/

namespace Sys2Proof.Machine

theorem tablesReady_of_phase {s : State} (hinv : s.Inv) (hp : s.phase ≠ .empty) : s.tablesReady = true := by
  obtain ⟨-, -, -, htables, -, -⟩ := hinv
  exact htables.resolve_right hp

theorem inv_hostReads {s s' : State} (hinv : s.Inv) (h : s.hostReads = .ok s') : s'.Inv := by
  obtain ⟨hvalid, hlatch, hwait, htables, hfault, hobs⟩ := hinv
  have legal : s'.observedLegal := fun c hc =>
    (status_mem_observed_of_hostReads h hc).elim (hobs c) readStatus_ok_le
  obtain ⟨seen, rfl⟩ := hostReads_ok h
  exact ⟨hvalid, hlatch, hwait, htables, hfault, legal⟩

theorem inv_sampled {s : State} (hinv : s.Inv) : s.sampled.Inv := by
  obtain ⟨hvalid, hlatch, hwait, htables, hfault, hobs⟩ := hinv
  exact ⟨hvalid, hlatch, hwait, htables.imp_left fun h => by simp [h], hfault, hobs⟩

theorem faultIsRecorded_of_status_none {s : State} (h : s.latch.status = none) : s.faultIsRecorded :=
  fun c hc => by rw [h] at hc; cases hc

theorem inv_resetEdge {s : State} (hinv : s.Inv) : s.resetEdge.Inv := by
  obtain ⟨-, -, -, -, -, hobs⟩ := hinv
  exact ⟨by simp [State.validExactlyWhenFull, latchAfterReset], .inl ⟨rfl, rfl, rfl⟩, trivial, .inr rfl,
    faultIsRecorded_of_status_none rfl, hobs⟩

theorem inv_complete {s : State} (hinv : s.Inv) (hready : s.tablesReady = true) (r : Word) : (s.complete r).Inv := by
  obtain ⟨-, -, -, -, -, hobs⟩ := hinv
  have recorded : (s.complete r).faultIsRecorded := fun c hc =>
    absurd (Option.some.inj hc).symm (causeCode_ne_statusOk c)
  exact ⟨by simp [State.validExactlyWhenFull], .inr (.inl ⟨r, rfl, rfl⟩), trivial, .inl hready, recorded, hobs⟩

theorem inv_raiseFault {s : State} (hinv : s.Inv) (hready : s.tablesReady = true) (c : Cause) :
    (s.raiseFault c).Inv := by
  obtain ⟨-, -, -, -, -, hobs⟩ := hinv
  have recorded : (s.raiseFault c).faultIsRecorded := fun d hd => by
    have hcd : c = d := causeCode_injective (Option.some.inj hd)
    simp [hcd]
  exact ⟨by simp [State.validExactlyWhenFull], .inr (.inr ⟨c, rfl, rfl⟩), trivial, .inl hready, recorded, hobs⟩

theorem inv_completeCommand {s t : State} {cmd : Word} (hinv : s.Inv) (hready : s.tablesReady = true)
    (h : completeCommand cmd s = .next t) : t.Inv := by
  rcases completeCommand_next h with ⟨r, rfl⟩ | ⟨c, rfl⟩
  · exact inv_complete hinv hready r
  · exact inv_raiseFault hinv hready c

theorem inv_wait {s : State} {cmd : Word} {left : Nat} (hinv : s.Inv) (hp : s.phase = .busy cmd (left + 1)) :
    (s.wait cmd left).Inv := by
  have hready : s.tablesReady = true := tablesReady_of_phase hinv (by simp [hp])
  obtain ⟨hvalid, hlatch, hwait, -, hfault, hobs⟩ := hinv
  have hcount : left + 1 < Config.latency (opField cmd) := by simpa [State.waitsWithinLatency, hp] using hwait
  exact ⟨by simpa [State.validExactlyWhenFull, hp] using hvalid, hlatch, Nat.lt_of_succ_lt hcount, .inl hready,
    hfault, hobs⟩

theorem inv_accept {s : State} (hinv : s.Inv) (hready : s.tablesReady = true) (cmd : Word) : (s.accept cmd).Inv := by
  obtain ⟨-, hlatch, -, -, hfault, hobs⟩ := hinv
  have legal : (s.accept cmd).latchLegal := hlatch.imp_left fun ⟨_, hr, hs⟩ => ⟨rfl, hr, hs⟩
  exact ⟨by simp [State.validExactlyWhenFull], legal, Nat.lt_succ_self _, .inl hready, hfault, hobs⟩

theorem inv_edgeAction {p : EdgeInput} {ready : Bool} {s t : State} (hinv : s.Inv)
    (hready : ready = true → s.tablesReady = true) (h : edgeAction p ready s = .next t) : t.Inv := by
  rcases edgeAction_next h with ⟨-, rfl⟩ | ⟨-, cmd, hp, hc⟩ | ⟨-, cmd, left, hp, rfl⟩ | ⟨-, -, -, hr, rfl⟩ |
    ⟨-, -, -, rfl⟩
  · exact inv_resetEdge hinv
  · exact inv_completeCommand hinv (tablesReady_of_phase hinv (by simp [hp])) hc
  · exact inv_wait hinv hp
  · exact inv_accept hinv (hready hr) p.cmd
  · exact hinv

/-- Settles O54: a step is the host's reads, the sampling of the edge and the action of the DDU, and each keeps the
invariant. A command is accepted only with RDY = 1, so with the tables loaded. -/
theorem stepKeepsInvariant : Obligations.StepKeepsInvariant := by
  intro s t hinv h
  obtain ⟨seen, hreads, hact⟩ := step_next h
  have hready : s.rdy = true → (s.tablesReady || s.input.tablesLoaded) = true := fun hrdy => by
    simp [(rdy_iff.mp hrdy).2]
  exact inv_edgeAction (inv_sampled (inv_hostReads hinv hreads)) hready hact

/-- Settles O55: in the state after reset the latch is empty and nothing is recorded or observed. -/
theorem resetHasInvariant : Obligations.ResetHasInvariant :=
  ⟨by simp [State.validExactlyWhenFull, State.reset, latchAfterReset], .inl ⟨rfl, rfl, rfl⟩, trivial, .inl rfl,
    faultIsRecorded_of_status_none rfl, fun _ hc => nomatch hc⟩

/-- Settles O48: with RSP_VALID = 0 neither port can be read and the transaction view is none. -/
theorem resetState : Obligations.ResetState :=
  ⟨rfl, rfl, rfl, rfl, rfl, readResult_eq_readNotValid rfl, readStatus_eq_readNotValid rfl, view_eq_none rfl, rfl⟩

end Sys2Proof.Machine
end

section
/-! PROOFS. LATENCY counted edge by edge (10_state.md R25, R30; 70_reset_and_hazards.md R187): acceptance, the edges a
command waits, and the edge at which its response is written. -/

namespace Sys2Proof.Machine

theorem runEdges_succ_next {s t : State} {n : Nat} (h : runEdges (n + 1) s = .next t) :
    ∃ u, step s = .next u ∧ runEdges n u = .next t := by
  rw [runEdges] at h
  split at h
  · next u hu => exact ⟨u, hu, h⟩
  · cases h
  · cases h

theorem runEdges_add {s t : State} {m : Nat} (n : Nat) (h : runEdges m s = .next t) :
    runEdges (m + n) s = runEdges n t := by
  induction m generalizing s with
  | zero => cases h; rw [Nat.zero_add]
  | succ m ih =>
    obtain ⟨u, hu, hrun⟩ := runEdges_succ_next h
    rw [Nat.succ_add, runEdges_succ _ hu]
    exact ih hrun

theorem runEdges_one (s : State) : runEdges 1 s = step s := by
  unfold runEdges
  cases step s <;> rfl

/-- `s` with `cmd` in BUSY, `left` edges of its LATENCY before the one that is due, and the given inputs to come. -/
def State.inFlight (cmd : Word) (left : Nat) (inputs : List EdgeInput) (s : State) : State :=
  { s with
    phase := .busy cmd left
    latch := { s.latch with rspValid := false }
    inputs := inputs }

theorem step_offered {s : State} {p : EdgeInput} {rest : List EdgeInput} (hrdy : s.rdy = true)
    (hin : s.inputs = p :: rest) (hp : p.undisturbed) (hreq : p.req = true) :
    step s = .next (s.inFlight p.cmd (Config.latencyBeyondOne (opField p.cmd)) rest) := by
  obtain ⟨hrst, hr, hs⟩ := hp
  have hinput : s.input = p := input_of_inputs hin
  subst hinput
  rw [offeredCommandIsAccepted s hrdy hrst hreq hr hs, hin]
  rfl

theorem inFlight_sampled {s : State} (hready : s.tablesReady = true) (cmd : Word) (left : Nat) (q : EdgeInput)
    (rest : List EdgeInput) : (s.inFlight cmd left (q :: rest)).sampled = s.inFlight cmd left rest :=
  sampled_of_tablesReady hready

theorem step_inFlight_wait {s : State} {cmd : Word} {left : Nat} {q : EdgeInput} {rest : List EdgeInput}
    (hready : s.tablesReady = true) (hq : q.undisturbed) :
    step (s.inFlight cmd (left + 1) (q :: rest)) = .next (s.inFlight cmd left rest) := by
  rw [step_wait (s := s.inFlight cmd (left + 1) (q :: rest)) hq rfl, inFlight_sampled hready]
  rfl

/-- At the edge at which it is due the command's response is written. -/
theorem step_inFlight_due {s : State} {cmd : Word} {q : EdgeInput} {rest : List EdgeInput} {r : Response}
    (hready : s.tablesReady = true) (hq : q.undisturbed) (hr : execute cmd = some r) :
    step (s.inFlight cmd 0 (q :: rest)) = .next ((s.inFlight cmd 0 rest).answered r) := by
  rw [step_due (s := s.inFlight cmd 0 (q :: rest)) hq rfl, completeCommand_of_execute hr,
    inFlight_sampled hready]

/-- A command that waits through `flight` only counts down. -/
theorem runEdges_inFlight {s : State} {cmd : Word} {left : Nat} {rest : List EdgeInput}
    (hready : s.tablesReady = true) (flight : List EdgeInput) (hq : ∀ q ∈ flight, q.undisturbed) :
    runEdges flight.length (s.inFlight cmd (left + flight.length) (flight ++ rest)) =
      .next (s.inFlight cmd left rest) := by
  induction flight with
  | nil => rfl
  | cons q flight ih =>
    obtain ⟨hq, hflight⟩ := List.forall_mem_cons.mp hq
    exact (runEdges_succ flight.length (step_inFlight_wait hready hq)).trans (ih hflight)

/-- After acceptance and the edges of `flight`, no more than LATENCY − 1 of them, the command is still in flight. -/
theorem runEdges_accepted {s : State} {p : EdgeInput} {flight rest : List EdgeInput} {left : Nat}
    (hrdy : s.rdy = true) (hin : s.inputs = p :: (flight ++ rest)) (hp : p.undisturbed) (hreq : p.req = true)
    (hq : ∀ q ∈ flight, q.undisturbed) (hleft : Config.latencyBeyondOne (opField p.cmd) = left + flight.length) :
    runEdges (flight.length + 1) s = .next (s.inFlight p.cmd left rest) := by
  rw [runEdges_succ _ (step_offered hrdy hin hp hreq), hleft]
  exact runEdges_inFlight (rdy_iff.mp hrdy).2 flight hq

/-- Settles O53: the edges of `flight` but the last are waits, and at the last one the response of the word is
written. -/
theorem edgesRefineTransaction : Obligations.EdgesRefineTransaction := by
  intro s p flight rest hrdy hin hlen hrst hreq hr hs hflight
  have hready : s.tablesReady = true := (rdy_iff.mp hrdy).2
  have hp : p.undisturbed := ⟨hrst, hr, hs⟩
  have hlat : flight.length = Config.latencyBeyondOne (opField p.cmd) + 1 := hlen
  refine ⟨fun n hn hnle => ?_, ?_⟩
  · obtain ⟨k, rfl⟩ := Nat.exists_eq_add_of_le' hn
    have hk : (flight.take k).length = k := List.length_take_of_le (by omega)
    have hsplit : s.inputs = p :: (flight.take k ++ (flight.drop k ++ rest)) := by
      rw [← List.append_assoc, List.take_append_drop, hin]
    have hrun := runEdges_accepted (left := Config.latencyBeyondOne (opField p.cmd) - k) hrdy hsplit hp hreq
      (fun q hq => hflight q (List.mem_of_mem_take hq)) (by omega)
    rw [hk] at hrun
    exact ⟨_, hrun, rfl, rfl, rfl⟩
  · obtain ⟨waits, last, rfl⟩ : ∃ waits last, flight = waits ++ [last] :=
      (List.eq_nil_or_concat' flight).resolve_left (by rintro rfl; cases hlat)
    have hwaits : waits.length = Config.latencyBeyondOne (opField p.cmd) := by simpa using hlat
    rw [List.append_assoc] at hin
    have hrun := runEdges_accepted (left := 0) hrdy hin hp hreq
      (fun q hq => hflight q (List.mem_append_left _ hq)) (by omega)
    obtain ⟨r, hresp⟩ := execute_isSome p.cmd
    have hdue : runEdges ((waits ++ [last]).length + 1) s =
        .next ((s.inFlight p.cmd 0 rest).answered r) := by
      rw [List.length_append, Nat.add_right_comm, List.length_singleton, runEdges_add 1 hrun, runEdges_one]
      exact step_inFlight_due hready (hflight last (by simp)) hresp
    exact ⟨r, _, hresp, hdue, rfl, hready, rfl, rfl, rfl⟩

end Sys2Proof.Machine
end

section
/-! PROOFS. The two read-only memories against the published tables (20_memory.md R40 to R43). Each listing, row by row,
is the listing its published table makes; what a read returns then follows from the index alone. -/

namespace Sys2Proof.Machine

/-- Table ENC is the encoding table: entry `n` of row `q` is the code of `10 q + n` (R41). -/
theorem romEncTable_eq_dpdEncode :
    romEncTable = (List.range 100).map fun q => (List.range 10).map fun n => (dpdEncode (10 * q + n)).toNat := by
  decide +kernel

theorem romEnc_eq_dpdEncode {v : Nat} (h : v ≤ 999) : romEnc v = some (dpdEncode v) := by
  have hrow : v / 10 < 100 := by omega
  have hentry : v % 10 < 10 := Nat.mod_lt v (by decide)
  simp [romEnc, romEncTable_eq_dpdEncode, hrow, hentry, Nat.div_add_mod]

/-- Settles O9: up to 999 by the listing, and beyond it there is no row. -/
theorem romEncIsEncodingTable : Obligations.RomEncIsEncodingTable :=
  ⟨fun _ h => romEnc_eq_dpdEncode h, fun _ h => romEnc_none h⟩

/-- Table DEC is the decoding table: entry `n` of row `q` is the value of the code `16 q + n` (R42). -/
theorem romDecTable_eq_dpdDecode :
    romDecTable =
      (List.range 64).map fun q => (List.range 16).map fun n => dpdDecode (BitVec.ofNat 10 (16 * q + n)) := by
  decide +kernel

theorem smallDigit_le (x y z : Bool) : smallDigit x y z ≤ 9 := by
  cases x <;> cases y <;> cases z <;> decide

theorem largeDigit_le (z : Bool) : largeDigit z ≤ 9 := by
  cases z <;> decide

/-- The published decoding table has three decimal digits in every row (40_codec.md R84, R85). -/
theorem dpdDecode_le (c : Declet) : dpdDecode c ≤ 999 := by
  have digits {d2 d1 d0 : Nat} (h2 : d2 ≤ 9) (h1 : d1 ≤ 9) (h0 : d0 ≤ 9) : 100 * d2 + 10 * d1 + d0 ≤ 999 := by omega
  unfold dpdDecode
  dsimp only
  split <;> apply digits <;> simp only [smallDigit_le, largeDigit_le]

/-- Settles O10: the entry of `c` is its published value, which the 10 bits of the port hold. -/
theorem romDecIsDecodingTable : Obligations.RomDecIsDecodingTable := by
  intro c
  have hfits : dpdDecode c < 2 ^ 10 := Nat.lt_of_le_of_lt (dpdDecode_le c) (by decide)
  simpa [romDec, romDecRow, romDecTable_eq_dpdDecode, Nat.div_add_mod] using hfits

/-- A read of STATUS is refused in two ways (10_state.md R26; 93_implementation_defined.md U8). -/
theorem readStatus_error {s : State} {f : Fault} (h : s.readStatus = .error f) :
    f = .readNotValid ∨ f = .statusReserved := by
  unfold State.readStatus at h
  split at h
  · split at h <;> cases h
    exact .inr rfl
  · cases h
    exact .inl rfl

/-- A read of RESULT is refused in two ways (10_state.md R26; 60_exceptions.md R152). -/
theorem readResult_error {s : State} {f : Fault} (h : s.readResult = .error f) :
    f = .readNotValid ∨ f = .readNoResult := by
  unfold State.readResult at h
  split at h
  · split at h <;> cases h
    exact .inr rfl
  · cases h
    exact .inr rfl
  · cases h
    exact .inl rfl

theorem sampleStatus_error {s : State} {f : Fault} (h : s.sampleStatus = .error f) : s.readStatus = .error f := by
  unfold State.sampleStatus at h
  split at h <;> cases h
  assumption

theorem sampleResult_error {s : State} {f : Fault} (h : s.sampleResult = .error f) : s.readResult = .error f := by
  unfold State.sampleResult at h
  split at h <;> cases h
  assumption

/-- A fault of the host's reads comes from one of the two ports, and so is never the one of a missing table entry. -/
theorem hostReads_ne_romEncNoEntry (s : State) : s.hostReads ≠ .error .romEncNoEntry := by
  intro h
  unfold State.hostReads at h
  split at h
  · rcases readStatus_error (sampleStatus_error h) with hf | hf <;> cases hf
  · next hs =>
    cases h
    rcases readResult_error (sampleResult_error hs) with hf | hf <;> cases hf

/-- Settles O11: the step stops only with the fault of a host's read. Every command has a response
(`respond_isSome`), so no entry is missing where one reads. -/
theorem noReadBeyondRomEnc : Obligations.NoReadBeyondRomEnc := by
  intro s h
  rcases stepStopsOnlyOnBadRead s with ⟨t, ht⟩ | ⟨f, hf, hread⟩
  · rw [ht] at h
    cases h
  · rw [hf] at h
    cases h
    exact hostReads_ne_romEncNoEntry s hread

/-- Settles O43: the edge is a wait of the sampled state, which REQ and CMD do not enter; in BUSY RDY is 0. -/
theorem busyIgnoresRequests : Obligations.BusyIgnoresRequests := by
  intro s cmd left hp hrst hr hs
  exact ⟨step_wait ⟨hrst, hr, hs⟩ hp, by simp [State.rdy, hp]⟩

end Sys2Proof.Machine
end

section
/-! PROOFS. The fields of a command word (30_encoding.md R60, R62): a word is its seven fields, a mask acts on each
field alone, and the word built from four values holds each of them in its field and zero elsewhere. -/

namespace Sys2Proof.Machine

/-- A word is its seven fields side by side, `OP` in the highest bits (R60). -/
theorem word_eq_append (w : Word) :
    w = opField w ++ rsv3Field w ++ BitVec.ofBool (ciField w) ++ rsv2Field w ++ bField w ++ rsv1Field w ++ aField w := by
  have carry : BitVec.ofBool (ciField w) = w.extractLsb' 24 1 := by
    apply BitVec.eq_of_getLsbD_eq
    intro n hn
    obtain rfl : n = 0 := by omega
    simp [ciField]
  rw [carry]
  simp only [opField, rsv3Field, rsv2Field, bField, rsv1Field, aField,
    BitVec.extractLsb'_append_extractLsb'_eq_extractLsb']
  exact BitVec.extractLsb'_eq_self.symm

/-- Two words are equal exactly when they agree in all seven fields. -/
theorem word_eq_iff {w w' : Word} :
    w = w' ↔ opField w = opField w' ∧ rsv3Field w = rsv3Field w' ∧ ciField w = ciField w' ∧
      rsv2Field w = rsv2Field w' ∧ bField w = bField w' ∧ rsv1Field w = rsv1Field w' ∧ aField w = aField w' := by
  constructor
  · rintro rfl
    simp
  · rintro ⟨hop, h3, hci, h2, hb, h1, ha⟩
    rw [word_eq_append w, word_eq_append w', hop, h3, hci, h2, hb, h1, ha]

@[simp] theorem opField_and (w m : Word) : opField (w &&& m) = opField w &&& opField m := BitVec.extractLsb'_and
@[simp] theorem rsv3Field_and (w m : Word) : rsv3Field (w &&& m) = rsv3Field w &&& rsv3Field m := BitVec.extractLsb'_and
@[simp] theorem ciField_and (w m : Word) : ciField (w &&& m) = (ciField w && ciField m) := BitVec.getLsbD_and
@[simp] theorem rsv2Field_and (w m : Word) : rsv2Field (w &&& m) = rsv2Field w &&& rsv2Field m := BitVec.extractLsb'_and
@[simp] theorem bField_and (w m : Word) : bField (w &&& m) = bField w &&& bField m := BitVec.extractLsb'_and
@[simp] theorem rsv1Field_and (w m : Word) : rsv1Field (w &&& m) = rsv1Field w &&& rsv1Field m := BitVec.extractLsb'_and
@[simp] theorem aField_and (w m : Word) : aField (w &&& m) = aField w &&& aField m := BitVec.extractLsb'_and

/-- The word that has `x` from bit `k` up and is zero elsewhere. -/
def fieldWord {n : Nat} (k : Nat) (x : BitVec n) : Word := x.setWidth 32 <<< k

theorem extractLsb'_fieldWord_same {n k : Nat} (x : BitVec n) (h : k + n ≤ 32) :
    (fieldWord k x).extractLsb' k n = x := by
  apply BitVec.eq_of_getLsbD_eq
  intro j hj
  have hword : k + j < 32 := by omega
  simp [fieldWord, hj, hword]

theorem extractLsb'_fieldWord_disjoint {n k start len : Nat} (x : BitVec n)
    (h : start + len ≤ k ∨ k + n ≤ start) : (fieldWord k x).extractLsb' start len = 0#len := by
  apply BitVec.eq_of_getLsbD_eq
  intro j hj
  rcases h with below | above
  · have hshift : start + j < k := by omega
    simp [fieldWord, hshift]
  · have hpast : n ≤ start + j - k := by omega
    simp [fieldWord, BitVec.getLsbD_of_ge _ _ hpast]

section
variable (op : Opcode) (ci : Bool) (b a : Declet)

theorem extractLsb'_commandWord (start len : Nat) :
    (commandWord op ci b a).extractLsb' start len =
      (fieldWord 28 op).extractLsb' start len ||| (fieldWord 24 (BitVec.ofBool ci)).extractLsb' start len |||
        (fieldWord 12 b).extractLsb' start len ||| (fieldWord 0 a).extractLsb' start len := by
  simp [commandWord, fieldWord, BitVec.extractLsb'_or]

@[simp] theorem opField_commandWord : opField (commandWord op ci b a) = op := by
  simp [opField, extractLsb'_commandWord, extractLsb'_fieldWord_same, extractLsb'_fieldWord_disjoint]

@[simp] theorem rsv3Field_commandWord : rsv3Field (commandWord op ci b a) = 0#3 := by
  simp [rsv3Field, extractLsb'_commandWord, extractLsb'_fieldWord_disjoint]

@[simp] theorem ciField_commandWord : ciField (commandWord op ci b a) = ci := by
  simp [ciField, commandWord]

@[simp] theorem rsv2Field_commandWord : rsv2Field (commandWord op ci b a) = 0#2 := by
  simp [rsv2Field, extractLsb'_commandWord, extractLsb'_fieldWord_disjoint]

@[simp] theorem bField_commandWord : bField (commandWord op ci b a) = b := by
  simp [bField, extractLsb'_commandWord, extractLsb'_fieldWord_same, extractLsb'_fieldWord_disjoint]

@[simp] theorem rsv1Field_commandWord : rsv1Field (commandWord op ci b a) = 0#2 := by
  simp [rsv1Field, extractLsb'_commandWord, extractLsb'_fieldWord_disjoint]

@[simp] theorem aField_commandWord : aField (commandWord op ci b a) = a := by
  simp [aField, extractLsb'_commandWord, extractLsb'_fieldWord_same, extractLsb'_fieldWord_disjoint]

end

theorem commandWord_fields {w : Word} (h1 : rsv1Field w = 0#2) (h2 : rsv2Field w = 0#2) (h3 : rsv3Field w = 0#3) :
    commandWord (opField w) (ciField w) (bField w) (aField w) = w := by
  rw [word_eq_iff]
  simp [h1, h2, h3]

/-- Settles O3: each field of the word is read back, and a word with its reserved fields zero agrees in all seven with
the word of its other four. -/
theorem commandWordFields : Obligations.CommandWordFields :=
  ⟨fun op ci b a => by simp, fun _ h1 h2 h3 => commandWord_fields h1 h2 h3⟩

end Sys2Proof.Machine
end

section
/-! PROOFS. The opcode map and the decoder (30_encoding.md R63 to R67). A row of the map asks of a word its opcode and
zero in every field its operation does not use, and a word decodes exactly through the one row it selects. -/

namespace Sys2Proof

open Sys2Proof.Machine

/-- A pattern is the opcode of its row and zero elsewhere. -/
theorem pattern_of_mem_opcodeTable : ∀ row ∈ opcodeTable, row.pattern = commandWord row.op false 0#10 0#10 := by
  decide

/-- A mask covers `OP` and the reserved fields, `B` in the rows up to ISCANON, and `CI` in all rows but those of ADD and
SUB. -/
theorem mask_of_mem_opcodeTable : ∀ row ∈ opcodeTable,
    opField row.mask = BitVec.allOnes 4 ∧ rsv3Field row.mask = BitVec.allOnes 3 ∧
    ciField row.mask = decide (row.op ≠ 0x7#4 ∧ row.op ≠ 0x8#4) ∧ rsv2Field row.mask = BitVec.allOnes 2 ∧
    bField row.mask = (if row.op.toNat ≤ 0x4 then BitVec.allOnes 10 else 0#10) ∧
    rsv1Field row.mask = BitVec.allOnes 2 ∧ aField row.mask = 0#10 := by
  decide

/-- A word selects a row exactly when it has the opcode of the row, with the reserved bits and the fields that the
operation does not use zero (R64, R66). -/
theorem selects_iff {row : OpcodeRow} (h : row ∈ opcodeTable) {w : Word} :
    w &&& row.mask = row.pattern ↔ opField w = row.op ∧ rsv3Field w = 0#3 ∧
      (row.op ≠ 0x7#4 → row.op ≠ 0x8#4 → ciField w = false) ∧ rsv2Field w = 0#2 ∧
      (row.op.toNat ≤ 0x4 → bField w = 0#10) ∧ rsv1Field w = 0#2 := by
  obtain ⟨hop, h3, hci, h2, hb, h1, ha⟩ := mask_of_mem_opcodeTable row h
  have carry : (ciField w && ciField row.mask) = false ↔
      (row.op ≠ 0x7#4 → row.op ≠ 0x8#4 → ciField w = false) := by
    rw [hci]
    cases ciField w <;> simp
  have operand : bField w &&& bField row.mask = 0#10 ↔ (row.op.toNat ≤ 0x4 → bField w = 0#10) := by
    rw [hb]
    split <;> simp_all [-BitVec.reduceAllOnes]
  rw [pattern_of_mem_opcodeTable row h, word_eq_iff]
  simp [hop, h3, carry, h2, operand, h1, ha, -BitVec.reduceAllOnes]

theorem opField_of_selects {row : OpcodeRow} (h : row ∈ opcodeTable) {w : Word}
    (hsel : w &&& row.mask = row.pattern) : opField w = row.op := by
  obtain ⟨hop, -⟩ := (selects_iff h).mp hsel
  exact hop

/-- Each row is found by its opcode: no two rows share one (R64). -/
theorem rowOf_of_mem_opcodeTable : ∀ row ∈ opcodeTable, rowOf row.op = some row := by
  decide

theorem rowOf_of_selects {row : OpcodeRow} (h : row ∈ opcodeTable) {w : Word}
    (hsel : w &&& row.mask = row.pattern) : rowOf (opField w) = some row := by
  rw [opField_of_selects h hsel, rowOf_of_mem_opcodeTable row h]

/-- No word selects two rows (R64). -/
theorem row_unique_of_selects {w : Word} {row row' : OpcodeRow} (h : row ∈ opcodeTable) (h' : row' ∈ opcodeTable)
    (hsel : w &&& row.mask = row.pattern) (hsel' : w &&& row'.mask = row'.pattern) : row = row' :=
  Option.some.inj ((rowOf_of_selects h hsel).symm.trans (rowOf_of_selects h' hsel'))

/-- The opcode of every row makes an instruction of any operand fields (R63). -/
theorem instrOf_isSome_of_mem_opcodeTable {row : OpcodeRow} (h : row ∈ opcodeTable) (a b : Declet) (ci : Bool) :
    ∃ i, instrOf row.op a b ci = some i := by
  fin_cases h <;> exact ⟨_, rfl⟩

/-- What the decoder accepts: a word that selects a row, as the instruction its operand fields make (R64, R67). -/
theorem decode_eq_ok_iff {w : Word} {i : Instr} :
    decode w = .ok i ↔ ∃ row ∈ opcodeTable, w &&& row.mask = row.pattern ∧
      instrOf (opField w) (aField w) (bField w) (ciField w) = some i := by
  constructor
  · intro h
    unfold decode at h
    split at h
    · next row j hrow hj =>
      split at h
      · next hsel =>
        cases h
        exact ⟨row, List.mem_of_find?_eq_some hrow, hsel, hj⟩
      · cases h
    · cases h
  · rintro ⟨row, hmem, hsel, hi⟩
    simp [decode, rowOf_of_selects hmem hsel, hi, hsel]

/-- Settles O4: a word that selects a row has the opcode of that row, which makes an instruction and belongs to no
other row. -/
theorem opcodeRowSelectsCommand : Obligations.OpcodeRowSelectsCommand := by
  refine ⟨fun w => ⟨?_, ?_⟩, fun w row h row' h' => row_unique_of_selects h h'⟩
  · rintro ⟨i, hi⟩
    obtain ⟨row, hmem, hsel, -⟩ := decode_eq_ok_iff.mp hi
    exact ⟨row, hmem, hsel⟩
  · rintro ⟨row, hmem, hsel⟩
    obtain ⟨i, hi⟩ := instrOf_isSome_of_mem_opcodeTable hmem (aField w) (bField w) (ciField w)
    rw [← opField_of_selects hmem hsel] at hi
    exact ⟨i, decode_eq_ok_iff.mpr ⟨row, hmem, hsel, hi⟩⟩

end Sys2Proof
end

section
/-! PROOFS. Encoding against decoding (30_encoding.md R60, R63, R67): the two round trips. -/

namespace Sys2Proof

open Sys2Proof.Machine

/-- Every encoded instruction selects the row of its opcode (R64). -/
theorem encode_selects (i : Instr) : Laws.EncodesRow.Statement i := by
  cases i with
  | int2dpd value => exact Laws.EncodesRow.int2dpd value
  | dpd2int code => exact Laws.EncodesRow.dpd2int code
  | canon code => exact Laws.EncodesRow.canon code
  | iscanon code => exact Laws.EncodesRow.iscanon code
  | inc code k => exact Laws.EncodesRow.inc code k
  | dec code k => exact Laws.EncodesRow.dec code k
  | add a b ci => exact Laws.EncodesRow.add a b ci
  | sub a b bi => exact Laws.EncodesRow.sub a b bi
  | cmp a b => exact Laws.EncodesRow.cmp a b

/-- The operand fields of an encoded instruction make that instruction (R62, R63). -/
theorem instrOf_encode (i : Instr) :
    instrOf (opField (encode i)) (aField (encode i)) (bField (encode i)) (ciField (encode i)) = some i := by
  cases i <;> simp [encode, instrOf]

/-- Settles O1: the word selects a row, and its fields make the instruction again. -/
theorem decodeEncodeRoundTrip : Obligations.DecodeEncodeRoundTrip := by
  intro i
  obtain ⟨row, hmem, -, hsel⟩ := encode_selects i
  exact decode_eq_ok_iff.mpr ⟨row, hmem, hsel, instrOf_encode i⟩

theorem opcodeOf_of_instrOf {op : Opcode} {a b : Declet} {ci : Bool} {i : Instr} (h : instrOf op a b ci = some i) :
    opcodeOf i = op := by
  unfold instrOf at h
  split at h <;> cases h <;> exact BitVec.eq_of_toNat_eq (Eq.symm ‹_›)

/-- With the fields that its operation does not use zero, an instruction has the word of the fields it was made of. -/
theorem encode_of_instrOf {op : Opcode} {a b : Declet} {ci : Bool} {i : Instr} (h : instrOf op a b ci = some i)
    (hci : op ≠ 0x7#4 → op ≠ 0x8#4 → ci = false) (hb : op.toNat ≤ 0x4 → b = 0#10) :
    encode i = commandWord op ci b a := by
  obtain rfl := opcodeOf_of_instrOf h
  cases i with
  | int2dpd _ | dpd2int _ | canon _ | iscanon _ =>
    cases h
    obtain rfl : ci = false := by simpa [opcodeOf] using hci
    obtain rfl : b = 0#10 := by simpa [opcodeOf] using hb
    rfl
  | inc _ _ | dec _ _ | cmp _ _ =>
    cases h
    obtain rfl : ci = false := by simpa [opcodeOf] using hci
    rfl
  | add _ _ _ | sub _ _ _ =>
    cases h
    rfl

/-- Settles O2: the row that the word selects has zero in every field the instruction does not keep, so the word is
that of its fields. -/
theorem encodeDecodeRoundTrip : Obligations.EncodeDecodeRoundTrip := by
  intro w i h
  obtain ⟨row, hmem, hsel, hi⟩ := decode_eq_ok_iff.mp h
  obtain ⟨hop, h3, hci, h2, hb, h1⟩ := (selects_iff hmem).mp hsel
  rw [← hop] at hb hci
  exact (encode_of_instrOf hi hci hb).trans (commandWord_fields h1 h2 h3)

end Sys2Proof
end

section
/-! PROOFS. Which instructions fault (30_encoding.md R63; 60_exceptions.md R150, R154, R155): exactly those with an
operand outside its domain. -/

namespace Sys2Proof.Machine

theorem sumResponse_ne_fault (sum : Nat) (c : Cause) : sumResponse sum ≠ some (.fault c) := by
  unfold sumResponse encodeTagged
  split <;> simp

theorem differenceResponse_ne_fault (d : Int) (c : Cause) : differenceResponse d ≠ some (.fault c) := by
  unfold differenceResponse encodeTagged
  split <;> simp

theorem respond_ne_fault {i : Instr} (h : i.wellFormed = true) (c : Cause) : respond i ≠ some (.fault c) := by
  cases i with
  | int2dpd value =>
    have hv : ¬ Config.valueMax < value.toNat := Nat.not_lt.mpr ((wellFormed_int2dpd value).mp h)
    simp [respond, int2dpdResponse, hv]
  | dpd2int code => nofun
  | canon code => simp [respond, canonResponse]
  | iscanon code => nofun
  | inc code k =>
    have hk : ¬ Config.kMax < k.toNat := Nat.not_lt.mpr ((wellFormed_inc code k).mp h)
    simpa [respond, incResponse, hk] using sumResponse_ne_fault _ c
  | dec code k =>
    have hk : ¬ Config.kMax < k.toNat := Nat.not_lt.mpr ((wellFormed_dec code k).mp h)
    simpa [respond, decResponse, hk] using differenceResponse_ne_fault _ c
  | add a b ci => exact sumResponse_ne_fault _ c
  | sub a b bi => exact differenceResponse_ne_fault _ c
  | cmp a b => nofun

theorem respond_of_wellFormed {i : Instr} (h : i.wellFormed = true) : ∃ r, respond i = some (.ok r) := by
  obtain ⟨response, hr⟩ := respond_isSome i
  cases response with
  | ok r => exact ⟨r, hr⟩
  | fault c => exact absurd hr (respond_ne_fault h c)

/-- The cause of an operand outside its domain: DOMAIN_VALUE for INT2DPD (R154), DOMAIN_K for INC and DEC (R155); the
others take any operand. -/
def domainCause : Instr → Cause
  | .int2dpd _ => .domainValue
  | _ => .domainK

theorem respond_of_not_wellFormed {i : Instr} (h : i.wellFormed = false) :
    respond i = some (.fault (domainCause i)) := by
  cases i with
  | int2dpd value => exact if_pos (Nat.not_le.mp (of_decide_eq_false h))
  | inc code k | dec code k => exact if_pos (Nat.not_le.mp (of_decide_eq_false h))
  | dpd2int _ | canon _ | iscanon _ | add _ _ _ | sub _ _ _ | cmp _ _ => cases h

/-- Settles O28: `exec` delivers the response, which the operands decide. -/
theorem everyInstructionCompletes : Obligations.EveryInstructionCompletes := by
  intro i s
  rw [exec_eq_deliver]
  refine ⟨fun h => ?_, fun h => ?_⟩
  · obtain ⟨r, hr⟩ := respond_of_wellFormed h
    exact ⟨r, by rw [hr, deliver_some_ok]⟩
  · rw [respond_of_not_wellFormed h, deliver_some_fault]
    rfl

end Sys2Proof.Machine
end

section
/-! PROOFS. The assembler (30_encoding.md R69, R70), by the number of operands of a statement. -/

namespace Sys2Proof.Machine

theorem fitDeclet_eq_ok_iff {n : Nat} {x : Declet} : fitDeclet n = .ok x ↔ n ≤ 1023 ∧ BitVec.ofNat 10 n = x := by
  unfold fitDeclet
  split <;> simp [*]

theorem fitCarry_eq_ok_iff {n : Nat} {x : Bool} : fitCarry n = .ok x ↔ n ≤ 1 ∧ decide (n = 1) = x := by
  unfold fitCarry
  split <;> simp [*]

theorem assemble_of_fitOne {st : AsmStatement} {make : Declet → Instr} {a : Nat}
    (h : fitStatement (expandPseudo st) = fitOne make a) :
    assemble st = if a ≤ 1023 then .ok (encode (make (BitVec.ofNat 10 a))) else .error .operandTooWide := by
  rw [assemble, h, fitOne, fitDeclet]
  by_cases ha : a ≤ 1023 <;> simp [ha]

theorem assemble_of_fitTwo {st : AsmStatement} {make : Declet → Declet → Instr} {a b : Nat}
    (h : fitStatement (expandPseudo st) = fitTwo make a b) :
    assemble st = if a ≤ 1023 ∧ b ≤ 1023 then .ok (encode (make (BitVec.ofNat 10 a) (BitVec.ofNat 10 b)))
      else .error .operandTooWide := by
  unfold fitTwo at h
  split at h
  · next x y hx hy =>
    obtain ⟨ha, rfl⟩ := fitDeclet_eq_ok_iff.mp hx
    obtain ⟨hb, rfl⟩ := fitDeclet_eq_ok_iff.mp hy
    rw [assemble, h, if_pos ⟨ha, hb⟩]
  · next wide =>
    rw [assemble, h, if_neg fun ⟨ha, hb⟩ => wide _ _ (if_pos ha) (if_pos hb)]

theorem assemble_of_fitThree {st : AsmStatement} {make : Declet → Declet → Bool → Instr} {a b c : Nat}
    (h : fitStatement (expandPseudo st) = fitThree make a b c) :
    assemble st = if a ≤ 1023 ∧ b ≤ 1023 ∧ c ≤ 1
      then .ok (encode (make (BitVec.ofNat 10 a) (BitVec.ofNat 10 b) (decide (c = 1))))
      else .error .operandTooWide := by
  unfold fitThree at h
  split at h
  · next x y z hx hy hz =>
    obtain ⟨ha, rfl⟩ := fitDeclet_eq_ok_iff.mp hx
    obtain ⟨hb, rfl⟩ := fitDeclet_eq_ok_iff.mp hy
    obtain ⟨hc, rfl⟩ := fitCarry_eq_ok_iff.mp hz
    rw [assemble, h, if_pos ⟨ha, hb, hc⟩]
  · next wide =>
    rw [assemble, h, if_neg fun ⟨ha, hb, hc⟩ => wide _ _ _ (if_pos ha) (if_pos hb) (if_pos hc)]

/-- Settles O59: each core statement by the number of its operands; a pseudo-instruction is its expansion by
definition. -/
theorem assemblerEncodesFittingOperands : Obligations.AssemblerEncodesFittingOperands := by
  refine ⟨fun a f hf => ?_, fun a b f hf => ?_, fun a b c f hf => ?_, fun a b => ⟨rfl, rfl, rfl, rfl, rfl, rfl⟩⟩
  · fin_cases hf
    · exact assemble_of_fitOne (make := .int2dpd) rfl
    · exact assemble_of_fitOne (make := .dpd2int) rfl
    · exact assemble_of_fitOne (make := .canon) rfl
    · exact assemble_of_fitOne (make := .iscanon) rfl
  · fin_cases hf
    · exact assemble_of_fitTwo (make := .inc) rfl
    · exact assemble_of_fitTwo (make := .dec) rfl
    · exact assemble_of_fitTwo (make := .cmp) rfl
  · fin_cases hf
    · exact assemble_of_fitThree (make := .add) rfl
    · exact assemble_of_fitThree (make := .sub) rfl

end Sys2Proof.Machine
end

section
/-! PROOFS. The edge at which a word that does not decode is due (60_exceptions.md R152). -/

namespace Sys2Proof.Machine

/-- Settles O41: the due word completes on the sampled state, and completing it raises the cause of the decoder. -/
theorem stepFaultsUndecodedWord : Obligations.StepFaultsUndecodedWord := by
  intro s cmd c hp hd hrst hr hs
  rw [step_due ⟨hrst, hr, hs⟩ hp, completeCommand, hd]
  rfl

end Sys2Proof.Machine
end

section
/-! PROOFS. The two published tables against each other (40_codec.md R80 to R86), digit by digit: decoding undoes
encoding, and a value with three large digits has four codes. -/

namespace Sys2Proof.Machine

/-- A digit with bit 3 clear is the small digit of its other three bits (R81). -/
theorem smallDigit_testBit {d : Nat} (hd : d ≤ 9) (h : d.testBit 3 = false) :
    smallDigit (d.testBit 2) (d.testBit 1) (d.testBit 0) = d := by
  revert h
  interval_cases d <;> decide

/-- A digit with bit 3 set is the large digit of its bit 0 (R81). -/
theorem largeDigit_testBit {d : Nat} (hd : d ≤ 9) (h : d.testBit 3 = true) : largeDigit (d.testBit 0) = d := by
  revert h
  interval_cases d <;> decide

@[simp] theorem smallDigit_ne_largeDigit (x y z z' : Bool) : smallDigit x y z ≠ largeDigit z' := by
  cases x <;> cases y <;> cases z <;> cases z' <;> decide

@[simp] theorem largeDigit_inj {z z' : Bool} : largeDigit z = largeDigit z' ↔ z = z' := by
  cases z <;> cases z' <;> decide

theorem getLsbD_ofBits (p q r s t u v w x y : Bool) (n : Nat) :
    (ofBits p q r s t u v w x y).getLsbD n = [y, x, w, v, u, t, s, r, q, p].getD n false := by
  by_cases hn : n < 10
  · simp only [ofBits, BitVec.getLsbD_append, BitVec.getLsbD_ofBool]
    interval_cases n <;> rfl
  · rw [BitVec.getLsbD_of_ge _ _ (Nat.not_lt.mp hn), List.getD_eq_default _ _ (Nat.not_lt.mp hn)]

/-- A code is its ten bits (R80). -/
theorem eq_ofBits (c : Declet) :
    c = ofBits (c.getLsbD 9) (c.getLsbD 8) (c.getLsbD 7) (c.getLsbD 6) (c.getLsbD 5) (c.getLsbD 4) (c.getLsbD 3)
      (c.getLsbD 2) (c.getLsbD 1) (c.getLsbD 0) := by
  refine BitVec.eq_of_getLsbD_eq fun n hn => ?_
  rw [getLsbD_ofBits]
  interval_cases n <;> rfl

/-- R86: each row of the encoding table is undone by one row of the decoding table, which reads back each digit from its
bits. -/
theorem dpdDecode_dpdEncode {v : Nat} (h : v ≤ 999) : dpdDecode (dpdEncode v) = v := by
  have h2 : v / 100 ≤ 9 := by omega
  have h1 : v / 10 % 10 ≤ 9 := by omega
  have h0 : v % 10 ≤ 9 := by omega
  have hdigits : 100 * (v / 100) + 10 * (v / 10 % 10) + v % 10 = v := by omega
  unfold dpdEncode
  dsimp only
  split <;>
    simp only [dpdDecode, getLsbD_ofBits, List.getD_cons_succ, List.getD_cons_zero, smallDigit_testBit,
      largeDigit_testBit, *]

/-- The value with the three large digits that the bits `r`, `u` and `y` select (R84, R85). -/
def allLargeValue (r u y : Bool) : Nat := 100 * largeDigit r + 10 * largeDigit u + largeDigit y

/-- The codes of the last row of the decoding table, which does not read `p` and `q` (R84). -/
def allLargeCodes (r u y : Bool) : List Declet :=
  [ofBits false false r true true u true true true y, ofBits false true r true true u true true true y,
   ofBits true false r true true u true true true y, ofBits true true r true true u true true true y]

theorem mem_allLargeCodes {r u y : Bool} {c : Declet} :
    c ∈ allLargeCodes r u y ↔ ∃ p q, c = ofBits p q r true true u true true true y := by
  simp [allLargeCodes, or_assoc]

theorem allLargeCodes_nodup (r u y : Bool) : (allLargeCodes r u y).Nodup := by
  cases r <;> cases u <;> cases y <;> decide

/-- Decimal digits are determined by the value they make (R81). -/
theorem digits_of_eq_allLargeValue {d2 d1 d0 : Nat} {r u y : Bool} (h : 100 * d2 + 10 * d1 + d0 = allLargeValue r u y)
    (h1 : d1 ≤ 9) (h0 : d0 ≤ 9) : d2 = largeDigit r ∧ d1 = largeDigit u ∧ d0 = largeDigit y := by
  have hr := largeDigit_le r
  have hu := largeDigit_le u
  have hy := largeDigit_le y
  unfold allLargeValue at h
  omega

theorem dpdDecode_allLarge (p q r u y : Bool) :
    dpdDecode (ofBits p q r true true u true true true y) = allLargeValue r u y := by
  simp only [dpdDecode, getLsbD_ofBits, List.getD_cons_succ, List.getD_cons_zero, allLargeValue]

/-- R84, R85: every other row of the decoding table has a small digit. -/
theorem dpdDecode_eq_allLargeValue_iff {r u y : Bool} {c : Declet} :
    dpdDecode c = allLargeValue r u y ↔ c ∈ allLargeCodes r u y := by
  rw [mem_allLargeCodes]
  constructor
  · intro h
    refine ⟨c.getLsbD 9, c.getLsbD 8, (eq_ofBits c).trans ?_⟩
    unfold dpdDecode at h
    dsimp only at h
    split at h <;> have digits := digits_of_eq_allLargeValue h
    case h_8 hv hw hx hs ht =>
      obtain ⟨hr, hu, hy⟩ := digits (largeDigit_le _) (largeDigit_le _)
      rw [hv, hw, hx, hs, ht, largeDigit_inj.mp hr, largeDigit_inj.mp hu, largeDigit_inj.mp hy]
    all_goals simp [smallDigit_le, largeDigit_le] at digits
  · rintro ⟨p, q, rfl⟩
    exact dpdDecode_allLarge p q r u y

theorem valueOf_eq_dpdDecode (c : Declet) : valueOf c = dpdDecode c := romDecIsDecodingTable c

theorem valueOf_dpdEncode {v : Nat} (h : v ≤ 999) : valueOf (dpdEncode v) = v := by
  rw [valueOf_eq_dpdDecode, dpdDecode_dpdEncode h]

/-- A value whose codes are listed without repetition has as many codes in 0 to 1023 as the list. -/
theorem length_filter_valueOf {codes : List Declet} (hnodup : codes.Nodup) {v : Nat}
    (hcodes : ∀ c, valueOf c = v ↔ c ∈ codes) :
    ((List.range 1024).filter fun n => valueOf (BitVec.ofNat 10 n) = v).length = codes.length := by
  rw [← List.length_map BitVec.toNat]
  refine List.Perm.length_eq ?_
  rw [List.perm_ext_iff_of_nodup (List.nodup_range.filter _) (hnodup.map fun _ _ => BitVec.eq_of_toNat_eq)]
  intro n
  simp only [List.mem_filter, List.mem_range, decide_eq_true_eq, hcodes, List.mem_map]
  constructor
  · rintro ⟨hn, hc⟩
    exact ⟨_, hc, by simpa using hn⟩
  · rintro ⟨c, hc, rfl⟩
    exact ⟨c.isLt, by simpa using hc⟩

/-- The values of R85 are those with three large digits. -/
theorem eq_allLargeValue_of_mem :
    ∀ v ∈ [888, 889, 898, 899, 988, 989, 998, 999], ∃ r u y, v = allLargeValue r u y := by
  decide

/-- Settles O12: every value is that of the code the encoding table gives it, and the values with four codes are those
with three large digits. -/
theorem decodeRangeAndRedundancy : Obligations.DecodeRangeAndRedundancy := by
  refine ⟨fun c => ⟨valueOf_eq_dpdDecode c, valueOf_le c⟩, fun v h => ⟨dpdEncode v, valueOf_dpdEncode h⟩,
    fun v hv => ?_⟩
  obtain ⟨r, u, y, rfl⟩ := eq_allLargeValue_of_mem v hv
  exact length_filter_valueOf (allLargeCodes_nodup r u y) fun c => by
    rw [valueOf_eq_dpdDecode, dpdDecode_eq_allLargeValue_iff]

/-- Settles O13: the entry of a value is its published code, of which it is the value. -/
theorem encodeInjectiveAndUndone : Obligations.EncodeInjectiveAndUndone := by
  refine ⟨fun v w hv hw h => ?_, fun v hv => ⟨dpdEncode v, romEnc_eq_dpdEncode hv, valueOf_dpdEncode hv⟩⟩
  rw [romEnc_eq_dpdEncode hv, romEnc_eq_dpdEncode hw, Option.some.injEq] at h
  rw [← valueOf_dpdEncode hv, h, valueOf_dpdEncode hw]

end Sys2Proof.Machine
end

section
/-! PROOFS. What the codec answers (40_codec.md R87 to R89), by the published tables. -/

namespace Sys2Proof.Machine

theorem respond_int2dpd {value : Declet} (h : value.toNat ≤ 999) :
    respond (.int2dpd value) = some (.ok (plainResult (dpdEncode value.toNat))) := by
  rw [respond, int2dpdResponse, Config.valueMax, if_neg (Nat.not_lt.mpr h), romEnc_eq_dpdEncode h]
  rfl

theorem respond_canon (code : Declet) :
    respond (.canon code) = some (.ok (plainResult (dpdEncode (valueOf code)))) := by
  rw [respond, canonResponse, romEnc_eq_dpdEncode (valueOf_le code)]
  rfl

theorem romDec_dpdEncode {value : Declet} (h : value.toNat ≤ 999) : romDec (dpdEncode value.toNat) = value :=
  BitVec.eq_of_toNat_eq (valueOf_dpdEncode h)

theorem respond_dpd2int (code : Declet) : respond (.dpd2int code) = some (.ok (plainResult (romDec code))) := rfl

/-- The 10 bits of the port hold every published value (R84, R85). -/
theorem plainResult_romDec (code : Declet) : plainResult (romDec code) = BitVec.ofNat 32 (dpdDecode code) := by
  rw [← valueOf_eq_dpdDecode, valueOf, ← plainResult_toNat, BitVec.ofNat_toNat, BitVec.setWidth_eq]

/-- Settles O16: the response is the published code, or outside the domain the fault. -/
theorem int2dpdAnswersCode : Obligations.Int2dpdAnswersCode := by
  intro value s
  rw [exec_eq_deliver]
  refine ⟨fun h => ?_, fun h => ?_⟩
  · rw [respond_int2dpd h, deliver_some_ok, plainResult]
  · rw [respond_of_not_wellFormed (i := .int2dpd value) (decide_eq_false (Nat.not_le.mpr h)), deliver_some_fault,
      domainCause]

/-- Settles O17: the entry of ROM_DEC, extended to the word, is the published value. -/
theorem dpd2intAnswersValue : Obligations.Dpd2intAnswersValue := by
  intro code s
  rw [exec_eq_deliver, respond_dpd2int, plainResult_romDec, deliver_some_ok]

/-- Settles O32: the code is canonical and gives its value back because `decode` undoes `encode`; CANON reads the entry
that INT2DPD of the value reads. -/
theorem codecLaws : Obligations.CodecLaws := by
  refine ⟨fun value h => ⟨_, respond_int2dpd h, ?_, ?_⟩, fun code => ⟨_, respond_dpd2int code, ?_⟩⟩
  · rw [plainResult_code, isCanonical, valueOf_dpdEncode h, romEnc_eq_dpdEncode h, decide_eq_true rfl]
  · rw [plainResult_code, respond_dpd2int, romDec_dpdEncode h, plainResult]
  · rw [plainResult_code, respond_canon]
    exact respond_int2dpd (valueOf_le code)

end Sys2Proof.Machine
end

section
/-! PROOFS. The words that spec/ writes out, one for each operation. -/

namespace Sys2Proof

/-- Settles O8: each word is the encoding of its instruction. -/
theorem exampleWordsDecode : Obligations.ExampleWordsDecode :=
  ⟨decodeEncodeRoundTrip (.int2dpd 998#10), decodeEncodeRoundTrip (.dpd2int 0x3FF#10),
   decodeEncodeRoundTrip (.canon 0x3FE#10), decodeEncodeRoundTrip (.iscanon 0x1FF#10),
   decodeEncodeRoundTrip (.inc 0x0FE#10 5#10), decodeEncodeRoundTrip (.dec 0x000#10 1#10),
   decodeEncodeRoundTrip (.add 0x256#10 0x2C3#10 true), decodeEncodeRoundTrip (.sub 0x003#10 0x005#10 false),
   decodeEncodeRoundTrip (.cmp 0x005#10 0x002#10)⟩

end Sys2Proof
end

section
/-! PROOFS. Canonical codes (41_normalizer.md R100, R103): re-encoding the value of a code clears its bits `p` and `q` in
the last row of the decoding table and keeps every other code, which is what the bit test of ISCANON looks for. -/

namespace Sys2Proof.Machine

theorem exists_eq_ofBits (c : Declet) : ∃ p q r s t u v w x y, c = ofBits p q r s t u v w x y :=
  ⟨_, _, _, _, _, _, _, _, _, _, eq_ofBits c⟩

theorem ofBits_inj_pq {p q p' q' r s t u v w x y : Bool} :
    ofBits p q r s t u v w x y = ofBits p' q' r s t u v w x y ↔ p = p' ∧ q = q' := by
  constructor
  · intro h
    have bit n := congrArg (fun c : Declet => c.getLsbD n) h
    simp only [getLsbD_ofBits] at bit
    exact ⟨bit 9, bit 8⟩
  · rintro ⟨rfl, rfl⟩
    rfl

theorem testBit_smallDigit (x y z : Bool) :
    (smallDigit x y z).testBit 3 = false ∧ (smallDigit x y z).testBit 2 = x ∧ (smallDigit x y z).testBit 1 = y ∧
      (smallDigit x y z).testBit 0 = z := by
  cases x <;> cases y <;> cases z <;> decide

theorem testBit_largeDigit (z : Bool) : (largeDigit z).testBit 3 = true ∧ (largeDigit z).testBit 0 = z := by
  cases z <;> decide

/-- The decimal digits of a value are read back from it (R81). -/
theorem digits_of_value {d2 d1 d0 : Nat} (h1 : d1 ≤ 9) (h0 : d0 ≤ 9) :
    (100 * d2 + 10 * d1 + d0) / 100 = d2 ∧ (100 * d2 + 10 * d1 + d0) / 10 % 10 = d1 ∧
      (100 * d2 + 10 * d1 + d0) % 10 = d0 := by
  omega

/-- R83, R84: each row of the decoding table is undone by one row of the encoding table, but for the last row, which does
not read `p` and `q`. -/
theorem dpdEncode_dpdDecode_ofBits (p q r s t u v w x y : Bool) :
    dpdEncode (dpdDecode (ofBits p q r s t u v w x y)) =
      if s && t && v && w && x then ofBits false false r s t u v w x y else ofBits p q r s t u v w x y := by
  simp only [dpdDecode, getLsbD_ofBits, List.getD_cons_succ, List.getD_cons_zero]
  split <;>
    simp [-Nat.testBit_zero, dpdEncode, digits_of_value, smallDigit_le, largeDigit_le, testBit_smallDigit,
      testBit_largeDigit]

theorem nonCanonicalBits_iff_masks {c : Declet} :
    nonCanonicalBits c = true ↔ c &&& 0x300#10 ≠ 0#10 ∧ c &&& 0x06E#10 = 0x06E#10 := by
  rw [nonCanonicalBits, Bool.and_eq_true, decide_eq_true_iff, decide_eq_true_iff]

/-- The bits that the masks of R102 select (R103). -/
theorem nonCanonicalBits_iff_bits {c : Declet} :
    nonCanonicalBits c = true ↔
      c.getLsbD 6 = true ∧ c.getLsbD 5 = true ∧ c.getLsbD 3 = true ∧ c.getLsbD 2 = true ∧ c.getLsbD 1 = true ∧
      (c.getLsbD 9 = true ∨ c.getLsbD 8 = true) := by
  have hband : c &&& 0x300#10 = 0#10 ↔ c.getLsbD 8 = false ∧ c.getLsbD 9 = false := by
    simp only [BitVec.eq_of_getLsbD_eq_iff, Nat.forall_lt_succ_right]
    simp
  have hlow : c &&& 0x06E#10 = 0x06E#10 ↔
      c.getLsbD 1 = true ∧ c.getLsbD 2 = true ∧ c.getLsbD 3 = true ∧ c.getLsbD 5 = true ∧ c.getLsbD 6 = true := by
    simp only [BitVec.eq_of_getLsbD_eq_iff, Nat.forall_lt_succ_right]
    simp [and_assoc]
  rw [nonCanonicalBits_iff_masks, Ne, hband, hlow, not_and_or, Bool.not_eq_false, Bool.not_eq_false]
  tauto

/-- R103: the bit test finds exactly the codes that re-encoding their value changes. -/
theorem nonCanonicalBits_iff_dpdEncode_ne {c : Declet} : nonCanonicalBits c = true ↔ dpdEncode (dpdDecode c) ≠ c := by
  obtain ⟨p, q, r, s, t, u, v, w, x, y, rfl⟩ := exists_eq_ofBits c
  rw [nonCanonicalBits_iff_bits, dpdEncode_dpdDecode_ofBits]
  simp only [getLsbD_ofBits, List.getD_cons_succ, List.getD_cons_zero]
  cases p <;> cases q <;> simp [ofBits_inj_pq, and_assoc]

theorem romEnc_valueOf (c : Declet) : romEnc (valueOf c) = some (dpdEncode (dpdDecode c)) := by
  rw [valueOf_eq_dpdDecode, romEnc_eq_dpdEncode (dpdDecode_le c)]

/-- Settles O15: the entry at the value is the published code of the published value. -/
theorem bitTestEqualsDefinition : Obligations.BitTestEqualsDefinition := by
  intro c
  rw [← nonCanonicalBits_iff_masks, nonCanonicalBits_iff_dpdEncode_ne, romEnc_valueOf, Ne, Ne, Option.some.injEq]

theorem not_isCanonical (c : Declet) : (!isCanonical c) = nonCanonicalBits c := by
  rw [Bool.eq_iff_iff, nonCanonicalBits_iff_dpdEncode_ne, isCanonical, romEnc_valueOf]
  simp

/-- Settles O14: the bit test reads the bits named in R100, and over 0 to 1023 it picks the codes of the rule's table. -/
theorem nonCanonicalCodesAre24 : Obligations.NonCanonicalCodesAre24 := by
  refine ⟨fun c => ?_, ?_⟩
  · rw [← nonCanonicalBits_iff_bits, ← not_isCanonical, Bool.not_eq_true']
  · simp only [not_isCanonical]
    decide +kernel

end Sys2Proof.Machine
end

section
/-! PROOFS. What the normalizer answers (41_normalizer.md R101, R102, R104), by the published tables. -/

namespace Sys2Proof.Machine

theorem respond_iscanon (code : Declet) :
    respond (.iscanon code) = some (.ok (if code = dpdEncode (dpdDecode code) then 1#32 else 0#32)) := by
  rw [respond, iscanonResponse]
  by_cases h : dpdEncode (dpdDecode code) = code
  · rw [if_neg (fun hbits => nonCanonicalBits_iff_dpdEncode_ne.mp hbits h), if_pos h.symm]
  · rw [if_pos (nonCanonicalBits_iff_dpdEncode_ne.mpr h), if_neg (Ne.symm h)]

theorem plainResult_inj {c c' : Declet} : plainResult c = plainResult c' ↔ c = c' := by
  refine ⟨fun h => ?_, congrArg plainResult⟩
  rw [← plainResult_code c, h, plainResult_code]

/-- Settles O18: the response is the entry at the published value. -/
theorem canonAnswersCanonicalCode : Obligations.CanonAnswersCanonicalCode := by
  intro code s
  rw [exec_eq_deliver, respond_canon, valueOf_eq_dpdDecode, deliver_some_ok, plainResult]

/-- Settles O19: the bit test fails exactly on the codes that re-encoding keeps. -/
theorem iscanonAnswersWhetherCanonical : Obligations.IscanonAnswersWhetherCanonical := by
  intro code s
  rw [exec_eq_deliver, respond_iscanon, deliver_some_ok]

/-- Settles O33: CANON answers the code that INT2DPD gives the value, and that code has the value. -/
theorem normalizerLaws : Obligations.NormalizerLaws := by
  intro c
  have hle := valueOf_le c
  refine ⟨_, _, respond_dpd2int c, respond_canon c, ?_, ?_, ?_, ?_⟩
  · rw [plainResult_code]
    exact respond_int2dpd hle
  · rw [plainResult_code, respond_canon, valueOf_dpdEncode hle]
  · rw [respond_iscanon, ← plainResult, plainResult_inj, valueOf_eq_dpdDecode, eq_comm (b := c)]
    simp
  · rw [plainResult_code, respond_dpd2int, valueOf, romDec_dpdEncode hle]

end Sys2Proof.Machine
end

section
/-! PROOFS. The arithmetic on one declet (42_arithmetic.md R120 to R127). An exact sum or difference in the range of R121
narrows to a flag over the published code of what the flag leaves; what each operation answers, and the laws of R127, are
read off that. -/

namespace Sys2Proof.Machine

theorem encodeTagged_eq (f : Bool) {v : Nat} (h : v ≤ 999) :
    encodeTagged f v = some (.ok (taggedResult f (dpdEncode v))) := by
  rw [encodeTagged, romEnc_eq_dpdEncode h]
  rfl

theorem sumResponse_eq {sum : Nat} (h : sum ≤ 1999) :
    sumResponse sum = some (.ok (if sum < 1000 then taggedResult false (dpdEncode sum)
      else taggedResult true (dpdEncode (sum - 1000)))) := by
  rw [sumResponse, Config.base]
  split
  · exact encodeTagged_eq false (by omega)
  · exact encodeTagged_eq true (by omega)

theorem differenceResponse_eq {m n : Nat} (hm : m ≤ 999) (hn : n ≤ 1000) :
    differenceResponse ((m : Int) - n) = some (.ok (if n ≤ m then taggedResult false (dpdEncode (m - n))
      else taggedResult true (dpdEncode (m + 1000 - n)))) := by
  rw [differenceResponse, Config.base]
  by_cases h : n ≤ m
  · have hvalue : ((m : Int) - n).toNat = m - n := by omega
    rw [if_pos (by omega), if_pos h, hvalue, encodeTagged_eq false (by omega)]
  · have hvalue : ((m : Int) - n + (1000 : Nat)).toNat = m + 1000 - n := by omega
    rw [if_neg (by omega), if_neg h, hvalue, encodeTagged_eq true (by omega)]

theorem respond_inc {code k : Declet} (h : k.toNat ≤ 1000) :
    respond (.inc code k) = sumResponse (dpdDecode code + k.toNat) := by
  rw [respond, incResponse, Config.kMax, if_neg (Nat.not_lt.mpr h), valueOf_eq_dpdDecode]

theorem respond_dec {code k : Declet} (h : k.toNat ≤ 1000) :
    respond (.dec code k) = differenceResponse ((dpdDecode code : Int) - (k.toNat : Int)) := by
  rw [respond, decResponse, Config.kMax, if_neg (Nat.not_lt.mpr h), valueOf_eq_dpdDecode]

theorem respond_add (a b : Declet) (ci : Bool) :
    respond (.add a b ci) = sumResponse (dpdDecode a + dpdDecode b + ci.toNat) := by
  rw [respond, addResponse, valueOf_eq_dpdDecode, valueOf_eq_dpdDecode]

theorem respond_sub (a b : Declet) (bi : Bool) :
    respond (.sub a b bi) = differenceResponse ((dpdDecode a : Int) - (dpdDecode b + bi.toNat : Nat)) := by
  rw [respond, subResponse, valueOf_eq_dpdDecode, valueOf_eq_dpdDecode, Int.natCast_add, Int.sub_sub]

theorem inc_sum_le (code : Declet) {k : Nat} (h : k ≤ 1000) : dpdDecode code + k ≤ 1999 :=
  Nat.add_le_add (dpdDecode_le code) h

theorem sub_subtrahend_le (b : Declet) (bi : Bool) : dpdDecode b + bi.toNat ≤ 1000 :=
  Nat.add_le_add (dpdDecode_le b) bi.toNat_le

theorem add_sum_le (a b : Declet) (ci : Bool) : dpdDecode a + dpdDecode b + ci.toNat ≤ 1999 := by
  rw [Nat.add_assoc]
  exact inc_sum_le a (sub_subtrahend_le b ci)

theorem exec_of_not_wellFormed {i : Instr} (h : i.wellFormed = false) (s : State) :
    exec i s = .next (s.raiseFault (domainCause i)) := by
  rw [exec_eq_deliver, respond_of_not_wellFormed h, deliver_some_fault]

/-- Settles O20: within the domain the exact sum is narrowed, above it the operand is not admitted. -/
theorem incAnswersTaggedSum : Obligations.IncAnswersTaggedSum := by
  intro code k s
  refine ⟨fun h => ?_, fun h => exec_of_not_wellFormed (i := .inc code k) (decide_eq_false (Nat.not_le.mpr h)) s⟩
  rw [exec_eq_deliver, respond_inc h, sumResponse_eq (inc_sum_le code h), deliver_some_ok]
  rfl

/-- Settles O21: within the domain the exact difference is narrowed, above it the operand is not admitted. -/
theorem decAnswersTaggedDifference : Obligations.DecAnswersTaggedDifference := by
  intro code k s
  refine ⟨fun h => ?_, fun h => exec_of_not_wellFormed (i := .dec code k) (decide_eq_false (Nat.not_le.mpr h)) s⟩
  rw [exec_eq_deliver, respond_dec h, differenceResponse_eq (dpdDecode_le code) h, deliver_some_ok]
  rfl

/-- Settles O22: the exact sum is in range for all operands, and is narrowed. -/
theorem addAnswersTaggedSum : Obligations.AddAnswersTaggedSum := by
  intro a b ci s
  rw [exec_eq_deliver, respond_add, sumResponse_eq (add_sum_le a b ci), deliver_some_ok]
  rfl

/-- Settles O23: the exact difference is in range for all operands, and is narrowed. -/
theorem subAnswersTaggedDifference : Obligations.SubAnswersTaggedDifference := by
  intro a b bi s
  rw [exec_eq_deliver, respond_sub, differenceResponse_eq (dpdDecode_le a) (sub_subtrahend_le b bi), deliver_some_ok]
  rfl

/-- Two values differ by less than 1000, so their difference is the integer of its 32-bit word. -/
theorem respond_cmp (a b : Declet) :
    ∃ r, respond (.cmp a b) = some (.ok r) ∧ r.toInt = (dpdDecode a : Int) - (dpdDecode b : Int) := by
  have ha := dpdDecode_le a
  have hb := dpdDecode_le b
  refine ⟨_, rfl, ?_⟩
  rw [valueOf_eq_dpdDecode, valueOf_eq_dpdDecode]
  exact BitVec.toInt_ofInt_eq_self (by decide) (by omega) (by omega)

/-- Settles O24: the delivered word has the exact difference as its integer. -/
theorem cmpAnswersSignedDifference : Obligations.CmpAnswersSignedDifference := by
  intro a b s
  obtain ⟨r, hr, hdiff⟩ := respond_cmp a b
  exact ⟨r, by rw [exec_eq_deliver, hr, deliver_some_ok], hdiff⟩

theorem eq_zero_iff_toInt_eq_zero {r : Word} : r = 0#32 ↔ r.toInt = 0 := by
  rw [← BitVec.toInt_inj, BitVec.toInt_zero]

/-- Settles O36: both results are exact differences, of which one is the negative of the other. -/
theorem compareLaws : Obligations.CompareLaws := by
  intro a b
  obtain ⟨r, hr, hdiff⟩ := respond_cmp a b
  obtain ⟨r', hr', hdiff'⟩ := respond_cmp b a
  refine ⟨r, r', hr, hr', by omega, ?_⟩
  rw [eq_zero_iff_toInt_eq_zero]
  omega

/-! ## The form and the law of a tagged result -/

/-- A flag over a canonical code, zero-extended (R120). -/
def CarryTagged (r : Word) : Prop := ∃ f code, r = taggedResult f code ∧ isCanonical code = true

theorem isCanonical_dpdEncode {v : Nat} (h : v ≤ 999) : isCanonical (dpdEncode v) = true := by
  rw [isCanonical, valueOf_dpdEncode h, romEnc_eq_dpdEncode h, decide_eq_true rfl]

theorem carryTagged_dpdEncode (f : Bool) {v : Nat} (h : v ≤ 999) : CarryTagged (taggedResult f (dpdEncode v)) :=
  ⟨f, dpdEncode v, rfl, isCanonical_dpdEncode h⟩

theorem CarryTagged.isCanonical_code {r : Word} (h : CarryTagged r) : isCanonical (r.setWidth 10) = true := by
  obtain ⟨f, code, rfl, hcode⟩ := h
  rwa [taggedResult_code]

/-- R127: flag and code of a narrowed sum make the exact sum again. -/
theorem sumResponse_law {sum : Nat} (h : sum ≤ 1999) :
    ∃ w, sumResponse sum = some (.ok w) ∧ CarryTagged w ∧
      1000 * (w.getLsbD 10).toNat + dpdDecode (w.setWidth 10) = sum := by
  refine ⟨_, sumResponse_eq h, ?_⟩
  split
  · have hv : sum ≤ 999 := by omega
    refine ⟨carryTagged_dpdEncode false hv, ?_⟩
    rw [taggedResult_flag, taggedResult_code, dpdDecode_dpdEncode hv, Bool.toNat_false]
    omega
  · have hv : sum - 1000 ≤ 999 := by omega
    refine ⟨carryTagged_dpdEncode true hv, ?_⟩
    rw [taggedResult_flag, taggedResult_code, dpdDecode_dpdEncode hv, Bool.toNat_true]
    omega

/-- R127: flag and code of a narrowed difference make the exact difference again. -/
theorem differenceResponse_law {m n : Nat} (hm : m ≤ 999) (hn : n ≤ 1000) :
    ∃ w, differenceResponse ((m : Int) - n) = some (.ok w) ∧ CarryTagged w ∧
      (dpdDecode (w.setWidth 10) : Int) - 1000 * (w.getLsbD 10).toNat = (m : Int) - n := by
  refine ⟨_, differenceResponse_eq hm hn, ?_⟩
  split
  · have hv : m - n ≤ 999 := by omega
    refine ⟨carryTagged_dpdEncode false hv, ?_⟩
    rw [taggedResult_flag, taggedResult_code, dpdDecode_dpdEncode hv, Bool.toNat_false]
    omega
  · have hv : m + 1000 - n ≤ 999 := by omega
    refine ⟨carryTagged_dpdEncode true hv, ?_⟩
    rw [taggedResult_flag, taggedResult_code, dpdDecode_dpdEncode hv, Bool.toNat_true]
    omega

theorem respond_inc_law (code : Declet) {k : Declet} (h : k.toNat ≤ 1000) :
    ∃ w, respond (.inc code k) = some (.ok w) ∧ CarryTagged w ∧
      1000 * (w.getLsbD 10).toNat + dpdDecode (w.setWidth 10) = dpdDecode code + k.toNat :=
  respond_inc h ▸ sumResponse_law (inc_sum_le code h)

theorem respond_dec_law (code : Declet) {k : Declet} (h : k.toNat ≤ 1000) :
    ∃ w, respond (.dec code k) = some (.ok w) ∧ CarryTagged w ∧
      (dpdDecode (w.setWidth 10) : Int) - 1000 * (w.getLsbD 10).toNat = (dpdDecode code : Int) - (k.toNat : Int) :=
  respond_dec h ▸ differenceResponse_law (dpdDecode_le code) h

theorem respond_add_law (a b : Declet) (ci : Bool) :
    ∃ w, respond (.add a b ci) = some (.ok w) ∧ CarryTagged w ∧
      1000 * (w.getLsbD 10).toNat + dpdDecode (w.setWidth 10) = dpdDecode a + dpdDecode b + ci.toNat :=
  respond_add a b ci ▸ sumResponse_law (add_sum_le a b ci)

theorem respond_sub_law (a b : Declet) (bi : Bool) :
    ∃ w, respond (.sub a b bi) = some (.ok w) ∧ CarryTagged w ∧
      (dpdDecode (w.setWidth 10) : Int) - 1000 * (w.getLsbD 10).toNat =
        (dpdDecode a : Int) - (dpdDecode b : Int) - (bi.toNat : Int) := by
  rw [respond_sub, Int.sub_sub, ← Int.natCast_add]
  exact differenceResponse_law (dpdDecode_le a) (sub_subtrahend_le b bi)

/-- Settles O34: the laws of INC and ADD; a declet's value is at most 999. -/
theorem sumLaws : Obligations.SumLaws := by
  refine ⟨fun code k h => ?_, fun a b ci => ?_⟩
  · obtain ⟨w, hw, -, hsum⟩ := respond_inc_law code h
    exact ⟨w, hw, hsum, dpdDecode_le _⟩
  · obtain ⟨w, hw, -, hsum⟩ := respond_add_law a b ci
    exact ⟨w, hw, hsum⟩

/-- Settles O35: the laws of DEC and SUB; a declet's value is at most 999. -/
theorem differenceLaws : Obligations.DifferenceLaws := by
  refine ⟨fun code k h => ?_, fun a b bi => ?_⟩
  · obtain ⟨w, hw, -, hdiff⟩ := respond_dec_law code h
    exact ⟨w, hw, hdiff, dpdDecode_le _⟩
  · obtain ⟨w, hw, -, hdiff⟩ := respond_sub_law a b bi
    exact ⟨w, hw, hdiff⟩

theorem wellFormed_of_respond_ok {i : Instr} {r : Word} (h : respond i = some (.ok r)) : i.wellFormed = true := by
  by_contra hw
  rw [respond_of_not_wellFormed (Bool.eq_false_iff.mpr hw)] at h
  cases h

theorem carryTagged_of_respond {a b : Declet} {ci : Bool} {i : Instr} {r : Word}
    (hi : i ∈ [Instr.inc a b, Instr.dec a b, Instr.add a b ci, Instr.sub a b ci]) (h : respond i = some (.ok r)) :
    CarryTagged r := by
  have result {law : Word → Prop} (hlaw : ∃ w, respond i = some (.ok w) ∧ CarryTagged w ∧ law w) : CarryTagged r := by
    obtain ⟨w, hw, htag, -⟩ := hlaw
    rw [h] at hw
    cases hw
    exact htag
  simp only [List.mem_cons, List.not_mem_nil, or_false] at hi
  rcases hi with rfl | rfl | rfl | rfl
  · exact result (respond_inc_law a ((wellFormed_inc a b).mp (wellFormed_of_respond_ok h)))
  · exact result (respond_dec_law a ((wellFormed_dec a b).mp (wellFormed_of_respond_ok h)))
  · exact result (respond_add_law a b ci)
  · exact result (respond_sub_law a b ci)

theorem taggedResult_ushiftRight (f : Bool) (code : Declet) : taggedResult f code >>> 11 = 0#32 := by
  refine BitVec.eq_of_getLsbD_eq fun n _ => ?_
  have hpast : ¬ 11 + n < 10 ∧ 11 + n - 10 ≠ 0 := by omega
  simp [taggedResult_bit, hpast]

theorem taggedResult_false (code : Declet) : taggedResult false code = code.setWidth 32 := by
  refine BitVec.eq_of_getLsbD_eq fun n hn => ?_
  rw [taggedResult_bit, BitVec.getLsbD_setWidth]
  by_cases h : n < 10
  · rw [if_pos h]
  · rw [if_neg h, BitVec.getLsbD_of_ge code n (Nat.not_lt.mp h)]
    simp

/-- Settles O37: the form of the result, and its bits by the place they have in the form. -/
theorem carryTaggedResults : Obligations.CarryTaggedResults := by
  intro a b ci i hi r h
  obtain ⟨f, code, rfl, hcode⟩ := carryTagged_of_respond hi h
  refine ⟨f, code, rfl, hcode, taggedResult_flag f code, taggedResult_ushiftRight f code, ?_⟩
  rintro rfl
  exact taggedResult_false code

/-- Settles O39: the ranges follow from that of a value, and ADD and SUB admit every operand. -/
theorem intermediateSumsInRange : Obligations.IntermediateSumsInRange := by
  intro a b k ci
  have ha := valueOf_le a
  have hb := valueOf_le b
  have hci := ci.toNat_le
  exact ⟨fun hk => by omega, by omega, respond_of_wellFormed (i := .add a b ci) rfl,
    respond_of_wellFormed (i := .sub a b ci) rfl⟩

end Sys2Proof.Machine
end

section
/-! PROOFS. Numbers of many declets (42_arithmetic.md R128, 70_reset_and_hazards.md R185): each chain by induction on the
declet pairs, one issued command a pair. -/

namespace Sys2Proof.Machine

theorem execute_encode (i : Instr) : execute (encode i) = respond i := by
  rw [execute, decodeEncodeRoundTrip]

theorem issue_encode {i : Instr} {r : Word} (h : respond i = some (.ok r)) : issue (encode i) = some r := by
  rw [issue, execute_encode, h]
  rfl

theorem addChain_cons {x y : Declet} {rest : List (Declet × Declet)} {carry last : Bool} {r : Word}
    {digits : List Declet} (hr : respond (.add x y carry) = some (.ok r))
    (hrest : addChain rest (r.getLsbD 10) = some (digits, last)) :
    addChain ((x, y) :: rest) carry = some (r.setWidth 10 :: digits, last) := by
  simp only [addChain, issue_encode hr, Config.carryBit, hrest]

theorem subChain_cons {x y : Declet} {rest : List (Declet × Declet)} {borrow last : Bool} {r : Word}
    {digits : List Declet} (hr : respond (.sub x y borrow) = some (.ok r))
    (hrest : subChain rest (r.getLsbD 10) = some (digits, last)) :
    subChain ((x, y) :: rest) borrow = some (r.setWidth 10 :: digits, last) := by
  simp only [subChain, issue_encode hr, Config.carryBit, hrest]

theorem coefficient_cons (d : Declet) (ds : List Declet) :
    coefficient (d :: ds) = dpdDecode d + 1000 * coefficient ds := by
  rw [coefficient, valueOf_eq_dpdDecode, Config.base]

/-- Settles O56: the law of ADD on the first pair, whose flag is the carry into the chain of the others. -/
theorem addChainAddsNumbers : Obligations.AddChainAddsNumbers := by
  intro pairs
  induction pairs with
  | nil => exact fun carry => ⟨[], carry, rfl, rfl, by simp, by simp [coefficient]⟩
  | cons pair rest ih =>
    intro carry
    obtain ⟨x, y⟩ := pair
    obtain ⟨r, hr, htag, hsum⟩ := respond_add_law x y carry
    obtain ⟨digits, last, hrest, hlen, hcanon, hnumber⟩ := ih (r.getLsbD 10)
    refine ⟨_, last, addChain_cons hr hrest, by simp [hlen],
      List.forall_mem_cons.mpr ⟨htag.isCanonical_code, hcanon⟩, ?_⟩
    simp only [List.map_cons, List.length_cons, coefficient_cons, pow_succ]
    linarith

/-- Settles O57: the law of SUB on the first pair, whose flag is the borrow into the chain of the others. -/
theorem subChainSubtractsNumbers : Obligations.SubChainSubtractsNumbers := by
  intro pairs
  induction pairs with
  | nil => exact fun borrow => ⟨[], borrow, rfl, rfl, by simp, by simp [coefficient]⟩
  | cons pair rest ih =>
    intro borrow
    obtain ⟨x, y⟩ := pair
    obtain ⟨r, hr, htag, hdiff⟩ := respond_sub_law x y borrow
    obtain ⟨digits, last, hrest, hlen, hcanon, hnumber⟩ := ih (r.getLsbD 10)
    refine ⟨_, last, subChain_cons hr hrest, by simp [hlen],
      List.forall_mem_cons.mpr ⟨htag.isCanonical_code, hcanon⟩, ?_⟩
    simp only [List.map_cons, List.length_cons, coefficient_cons, pow_succ]
    push_cast
    linarith

/-- A number of declets is that of its base-1000 digits. -/
theorem coefficient_eq_ofDigits (ds : List Declet) : coefficient ds = Nat.ofDigits 1000 (ds.map dpdDecode) := by
  induction ds with
  | nil => rfl
  | cons d ds ih => rw [coefficient_cons, ih, List.map_cons, Nat.ofDigits_cons]

theorem coefficient_lt (ds : List Declet) : coefficient ds < 1000 ^ ds.length := by
  rw [coefficient_eq_ofDigits, ← List.length_map dpdDecode]
  refine Nat.ofDigits_lt_base_pow_length (by decide) fun v hv => ?_
  obtain ⟨d, -, rfl⟩ := List.mem_map.mp hv
  exact Nat.lt_succ_of_le (dpdDecode_le d)

/-- The first declet of a number written most significant first counts by the length of the others. -/
theorem coefficient_reverse_cons (d : Declet) (ds : List Declet) :
    coefficient (d :: ds).reverse = coefficient ds.reverse + 1000 ^ ds.length * dpdDecode d := by
  simp [coefficient_eq_ofDigits, Nat.ofDigits_append]

/-- The greater most significant digit makes the greater number. -/
theorem add_mul_lt_add_mul {base low low' high high' : Nat} (hlow : low < base) (hhigh : high < high') :
    low + base * high < low' + base * high' :=
  calc low + base * high < base + base * high := Nat.add_lt_add_right hlow _
    _ = base * (high + 1) := by ring
    _ ≤ base * high' := Nat.mul_le_mul_left base hhigh
    _ ≤ low' + base * high' := Nat.le_add_left _ _

theorem compareChain_cons {x y : Declet} {r : Word} (rest : List (Declet × Declet))
    (hr : respond (.cmp x y) = some (.ok r)) :
    compareChain ((x, y) :: rest) = if r = 0#32 then compareChain rest else some r := by
  simp [compareChain, issue_encode hr]

/-- Settles O58: a first pair of equal values leaves the order to the others, and one of different values decides it. -/
theorem compareChainOrdersNumbers : Obligations.CompareChainOrdersNumbers := by
  intro pairs
  induction pairs with
  | nil => exact ⟨0#32, rfl, by simp, by simp⟩
  | cons pair rest ih =>
    obtain ⟨x, y⟩ := pair
    obtain ⟨r, hr, hdiff⟩ := respond_cmp x y
    have hx := coefficient_lt (rest.map Prod.fst).reverse
    have hy := coefficient_lt (rest.map Prod.snd).reverse
    simp only [List.length_reverse, List.length_map] at hx hy
    simp only [compareChain_cons rest hr, eq_zero_iff_toInt_eq_zero, List.map_cons, coefficient_reverse_cons,
      List.length_map] at ih ⊢
    rcases Nat.lt_trichotomy (dpdDecode x) (dpdDecode y) with hlt | heq | hgt
    · have hnumber := add_mul_lt_add_mul (low' := coefficient (rest.map Prod.snd).reverse) hx hlt
      exact ⟨r, if_neg (by omega), by omega, by omega⟩
    · rw [if_pos (by omega), heq]
      simpa using ih
    · have hnumber := add_mul_lt_add_mul (low' := coefficient (rest.map Prod.fst).reverse) hy hgt
      exact ⟨r, if_neg (by omega), by omega, by omega⟩

end Sys2Proof.Machine
end

section
/-! PROOFS. What the decoder rejects, and by which cause (60_exceptions.md R151, R153, R156): a word whose opcode has no
row, and after that a word that does not select the row of its opcode. -/

namespace Sys2Proof

open Sys2Proof.Machine

/-- The opcodes without a row are 0x0 and 0xA to 0xF (R65, R153). -/
theorem rowOf_eq_none_iff : ∀ {op : Opcode}, rowOf op = none ↔ op = 0x0#4 ∨ 0xA ≤ op.toNat := by
  decide

theorem rowOf_eq_some_iff {op : Opcode} {row : OpcodeRow} :
    rowOf op = some row ↔ row ∈ opcodeTable ∧ row.op = op := by
  constructor
  · intro h
    exact ⟨List.mem_of_find?_eq_some h, by simpa using List.find?_some h⟩
  · rintro ⟨hmem, rfl⟩
    exact rowOf_of_mem_opcodeTable row hmem

theorem decode_of_rowOf_eq_none {w : Word} (h : rowOf (opField w) = none) : decode w = .error .illegalOp := by
  simp [decode, h]

/-- A word whose opcode has a row decodes when it selects that row, and else fails the second check (R151, R156). -/
theorem decode_of_rowOf_eq_some {w : Word} {row : OpcodeRow} (h : rowOf (opField w) = some row) :
    ∃ i, decode w = if w &&& row.mask = row.pattern then .ok i else .error .reservedBits := by
  obtain ⟨hmem, hop⟩ := rowOf_eq_some_iff.mp h
  obtain ⟨i, hi⟩ := instrOf_isSome_of_mem_opcodeTable hmem (aField w) (bField w) (ciField w)
  rw [hop] at hi
  exact ⟨i, by simp [decode, h, hi]⟩

theorem decode_eq_reservedBits_iff_of_rowOf {w : Word} {row : OpcodeRow} (h : rowOf (opField w) = some row) :
    decode w = .error .reservedBits ↔ w &&& row.mask ≠ row.pattern := by
  obtain ⟨i, hd⟩ := decode_of_rowOf_eq_some h
  rw [hd]
  split <;> simp_all

theorem decode_eq_illegalOp_iff {w : Word} :
    decode w = .error .illegalOp ↔ opField w = 0x0#4 ∨ 0xA ≤ (opField w).toNat := by
  rw [← rowOf_eq_none_iff]
  refine ⟨fun h => ?_, decode_of_rowOf_eq_none⟩
  cases hrow : rowOf (opField w) with
  | none => rfl
  | some row =>
    obtain ⟨i, hd⟩ := decode_of_rowOf_eq_some hrow
    rw [h] at hd
    split at hd <;> cases hd

theorem decode_eq_reservedBits_iff {w : Word} :
    decode w = .error .reservedBits ↔ ∃ row ∈ opcodeTable, row.op = opField w ∧ w &&& row.mask ≠ row.pattern := by
  constructor
  · intro h
    cases hrow : rowOf (opField w) with
    | none => rw [decode_of_rowOf_eq_none hrow] at h; cases h
    | some row =>
      obtain ⟨hmem, hop⟩ := rowOf_eq_some_iff.mp hrow
      exact ⟨row, hmem, hop, (decode_eq_reservedBits_iff_of_rowOf hrow).mp h⟩
  · rintro ⟨row, hmem, hop, hne⟩
    exact (decode_eq_reservedBits_iff_of_rowOf (rowOf_eq_some_iff.mpr ⟨hmem, hop⟩)).mpr hne

/-- The decoder has no other cause: the domain checks are not its own (R151). -/
theorem decode_error_cause {w : Word} {c : Cause} (h : decode w = .error c) : c = .illegalOp ∨ c = .reservedBits := by
  unfold decode at h
  split at h
  · split at h <;> cases h
    exact .inr rfl
  · cases h
    exact .inl rfl

/-- A word fails to select a row by its opcode or by a field that is not zero where the operation has none (R156). -/
theorem not_selects_iff {w : Word} {row : OpcodeRow} (hmem : row ∈ opcodeTable) (hop : row.op = opField w) :
    w &&& row.mask ≠ row.pattern ↔
      rsv3Field w ≠ 0#3 ∨ rsv2Field w ≠ 0#2 ∨ rsv1Field w ≠ 0#2 ∨
      ((opField w).toNat ≤ 0x4 ∧ bField w ≠ 0#10) ∨
      (opField w ≠ 0x7#4 ∧ opField w ≠ 0x8#4 ∧ ciField w = true) := by
  rw [Ne, selects_iff hmem, hop, ← Bool.not_eq_true]
  tauto

theorem completeCommand_of_decode_error {cmd : Word} {c : Cause} (h : decode cmd = .error c) (s : State) :
    completeCommand cmd s = .next (s.raiseFault c) := by
  rw [completeCommand, h]

/-- Settles O5: a reserved opcode is one without a row, and completing the word raises the cause of the decoder. -/
theorem illegalOpForReservedOpcodes : Obligations.IllegalOpForReservedOpcodes :=
  fun _ => ⟨decode_eq_illegalOp_iff, fun h s => completeCommand_of_decode_error (decode_eq_illegalOp_iff.mpr h) s⟩

/-- Settles O6: a legal opcode has a row, and the word fails to select it in one of its fields. -/
theorem reservedBitsForNonzeroFields : Obligations.ReservedBitsForNonzeroFields := by
  intro w hlo hhi
  refine ⟨decode_eq_reservedBits_iff, ?_, fun h s => completeCommand_of_decode_error h s⟩
  cases hrow : rowOf (opField w) with
  | none =>
    rcases rowOf_eq_none_iff.mp hrow with h | h
    · simp [h] at hlo
    · omega
  | some row =>
    obtain ⟨hmem, hop⟩ := rowOf_eq_some_iff.mp hrow
    rw [decode_eq_reservedBits_iff_of_rowOf hrow, not_selects_iff hmem hop]

end Sys2Proof
end

section
/-! PROOFS. The faults of a command word as a whole (60_exceptions.md R150, R151, R154, R155): the decoder's causes
first, and for a word that decodes the domain of its operation. -/

namespace Sys2Proof.Machine

theorem execute_of_decode_error {w : Word} {c : Cause} (h : decode w = .error c) : execute w = some (.fault c) := by
  rw [execute, h]

/-- STATUS of a command that decodes: OK within the domain of its operation, else the cause of that domain. -/
theorem responseStatus_of_respond {i : Instr} {r : Response} (h : respond i = some r) :
    responseStatus r = if i.wellFormed then statusOk else causeCode (domainCause i) := by
  cases hw : i.wellFormed with
  | true =>
    obtain ⟨result, hr⟩ := respond_of_wellFormed hw
    rw [h] at hr
    cases hr
    rfl
  | false =>
    rw [respond_of_not_wellFormed hw] at h
    cases h
    rfl

/-- The domain of an operation by the fields of its word (R154, R155). -/
theorem domainStatus_eq_fields (i : Instr) :
    (if i.wellFormed then statusOk else causeCode (domainCause i)) =
      if opField (encode i) = 0x1#4 ∧ 999 < (aField (encode i)).toNat then 0x3#4
      else if (opField (encode i) = 0x5#4 ∨ opField (encode i) = 0x6#4) ∧ 1000 < (bField (encode i)).toNat then 0x4#4
      else 0x0#4 := by
  cases i with
  | int2dpd value =>
    by_cases h : value.toNat ≤ 999 <;>
      simp [encode, wellFormed_int2dpd, domainCause, causeCode, statusOk, h]
  | inc code k | dec code k =>
    by_cases h : k.toNat ≤ 1000 <;>
      simp [encode, wellFormed_inc, wellFormed_dec, domainCause, causeCode, statusOk, h]
  | dpd2int _ | canon _ | iscanon _ | add _ _ _ | sub _ _ _ | cmp _ _ => simp [encode, Instr.wellFormed, statusOk]

/-- Settles O7: the causes of the decoder are its first two checks in their order; a word that decodes is that of its
instruction, whose domain is left to check. -/
theorem statusIsFirstFailingCheck : Obligations.StatusIsFirstFailingCheck := by
  intro w
  obtain ⟨r, hr⟩ := execute_isSome w
  refine ⟨r, hr, ?_⟩
  simp only [← decode_eq_illegalOp_iff, ← decode_eq_reservedBits_iff]
  cases hd : decode w with
  | error c =>
    rw [execute_of_decode_error hd] at hr
    cases hr
    rcases decode_error_cause hd with rfl | rfl <;> simp [responseStatus, causeCode]
  | ok i =>
    obtain rfl := encodeDecodeRoundTrip w i hd
    rw [execute_encode] at hr
    rw [if_neg nofun, if_neg nofun, responseStatus_of_respond hr, domainStatus_eq_fields]

/-- A domain fault is the answer of a word that decodes, to an operand outside the domain of its operation. -/
theorem execute_eq_domainFault_iff {w : Word} {c : Cause} (hop : c ≠ .illegalOp) (hbits : c ≠ .reservedBits) :
    execute w = some (.fault c) ↔ ∃ i, i.wellFormed = false ∧ domainCause i = c ∧ w = encode i := by
  constructor
  · intro h
    cases hd : decode w with
    | error d =>
      rw [execute_of_decode_error hd] at h
      cases h
      rcases decode_error_cause hd with rfl | rfl <;> contradiction
    | ok i =>
      obtain rfl := encodeDecodeRoundTrip w i hd
      rw [execute_encode] at h
      have hw : i.wellFormed = false := Bool.eq_false_iff.mpr fun hw => respond_ne_fault hw c h
      rw [respond_of_not_wellFormed hw] at h
      cases h
      exact ⟨i, hw, rfl, rfl⟩
  · rintro ⟨i, hw, rfl, rfl⟩
    rw [execute_encode, respond_of_not_wellFormed hw]

/-- Settles O26: of the operations only INT2DPD has a domain of values. -/
theorem domainValueOnlyInt2dpd : Obligations.DomainValueOnlyInt2dpd := by
  intro w
  rw [execute_eq_domainFault_iff (by decide) (by decide)]
  constructor
  · rintro ⟨i, hw, hc, rfl⟩
    cases i with
    | int2dpd value => exact ⟨value, Nat.not_le.mp (of_decide_eq_false hw), rfl⟩
    | _ => cases hc
  · rintro ⟨value, h, rfl⟩
    exact ⟨.int2dpd value, decide_eq_false (Nat.not_le.mpr h), rfl, rfl⟩

/-- Settles O27: of the operations only INC and DEC have a step. -/
theorem domainKOnlyIncDec : Obligations.DomainKOnlyIncDec := by
  intro w
  rw [execute_eq_domainFault_iff (by decide) (by decide)]
  constructor
  · rintro ⟨i, hw, hc, rfl⟩
    cases i with
    | inc code k => exact ⟨code, k, Nat.not_le.mp (of_decide_eq_false hw), .inl rfl⟩
    | dec code k => exact ⟨code, k, Nat.not_le.mp (of_decide_eq_false hw), .inr rfl⟩
    | int2dpd _ => cases hc
    | _ => cases hw
  · rintro ⟨code, k, h, rfl | rfl⟩
    · exact ⟨.inc code k, decide_eq_false (Nat.not_le.mpr h), rfl, rfl⟩
    · exact ⟨.dec code k, decide_eq_false (Nat.not_le.mpr h), rfl, rfl⟩

end Sys2Proof.Machine
end

section
/-! PROOFS. The fault record along the steps (60_exceptions.md R152; 92_eei_decisions.md D19): it grows at the edge at
which a response is written, by the causes of that response, and at no other edge. -/

namespace Sys2Proof.Machine

/-- At the edge at which it is due the response is in the latch and its causes are in the record, whatever the host
reads at that edge. -/
theorem step_due_answered {s t : State} {cmd : Word} {r : Response} (h : step s = .next t)
    (hrst : s.input.rst = false) (hp : s.phase = .busy cmd 0) (hr : execute cmd = some r) :
    t.faultRecord = s.faultRecord ++ responseCauses r ∧
      t.latch = { rspValid := true, result := responseResult r, status := some (responseStatus r) } := by
  obtain ⟨seen, -, hact⟩ := step_next h
  rw [edgeAction_due (s := ({ s with observed := s.observed ++ seen } : State).sampled) hp hrst,
    completeCommand_of_execute hr] at hact
  cases hact
  exact ⟨rfl, rfl⟩

theorem step_faultRecord_of_not_due {s t : State} (h : step s = .next t)
    (hdue : s.input.rst = false → ∀ cmd, s.phase ≠ .busy cmd 0) : t.faultRecord = s.faultRecord := by
  obtain ⟨seen, -, hact⟩ := step_next h
  rcases edgeAction_next hact with ⟨-, rfl⟩ | ⟨hrst, cmd, hp, -⟩ | ⟨-, cmd, left, -, rfl⟩ | ⟨-, -, -, -, rfl⟩ |
    ⟨-, -, -, rfl⟩
  · rfl
  · exact absurd hp (hdue hrst cmd)
  · rfl
  · rfl
  · rfl

/-- Settles O31: a response that is due writes its causes, of which a result has none; at any other edge there is no
response to write. -/
theorem faultRecordNeverCleared : Obligations.FaultRecordNeverCleared := by
  intro s t h
  refine ⟨fun cmd c hrst hp hr => step_due_answered h hrst hp hr, fun hquiet => ?_⟩
  by_cases hdue : s.input.rst = false ∧ ∃ cmd, s.phase = .busy cmd 0
  · obtain ⟨hrst, cmd, hp⟩ := hdue
    obtain ⟨r, hr⟩ := execute_isSome cmd
    cases r with
    | ok w => simpa [responseCauses] using (step_due_answered h hrst hp hr).left
    | fault c => exact absurd hr (hquiet cmd c hrst hp)
  · exact step_faultRecord_of_not_due h fun hrst cmd hp => hdue ⟨hrst, cmd, hp⟩

end Sys2Proof.Machine
end

section
/-! PROOFS. A host that waits for RDY (70_reset_and_hazards.md R182, R183): while its tables load the DDU takes nothing,
and a request held through the command in flight is taken at the edge after the response. -/

namespace Sys2Proof.Machine

/-- Settles O46: no command is in flight, and with RDY = 0 an edge only samples its inputs. -/
theorem noCommandBeforeTables : Obligations.NoCommandBeforeTables := by
  intro s htables hp hrst hr hs
  have hidle : phaseBusy s.phase = false := by rw [hp]; rfl
  have hrdy : s.rdy = false := by simp [State.rdy, htables]
  have hsampled : s.sampled = { s with inputs := s.inputs.tail, tablesReady := s.input.tablesLoaded } := by
    simp [State.sampled, htables]
  refine ⟨hrdy, ?_⟩
  rw [step_idle ⟨hrst, hr, hs⟩ hidle, hrdy, Bool.and_false, hsampled]
  rfl

/-- Settles O44, by induction on the edges the command in flight still waits: at the last of its edges it is answered,
which makes RDY 1, and the edge after that accepts the held one. -/
theorem heldRequestIsAccepted : Obligations.HeldRequestIsAccepted := by
  intro left s cmd p rest hp hready hrst hreq hr hs hin
  have hheld : p.undisturbed := ⟨hrst, hr, hs⟩
  induction left generalizing s with
  | zero =>
    have hin : s.inputs = p :: p :: rest := hin
    obtain ⟨r, hresp⟩ := execute_isSome cmd
    have hdue : step s = .next (s.sampled.answered r) :=
      (step_due (by rwa [input_of_inputs hin]) hp).trans (completeCommand_of_execute hresp _)
    have hrdy : (s.sampled.answered r).rdy = true := rdy_iff.mpr ⟨rfl, by simp [State.answered, hready]⟩
    have hnext : (s.sampled.answered r).inputs = p :: rest := by simp [State.answered, hin]
    exact ⟨_, (runEdges_succ 1 hdue).trans ((runEdges_one _).trans (step_offered hrdy hnext hheld hreq)), rfl, rfl⟩
  | succ left ih =>
    have hin : s.inputs = p :: (List.replicate (left + 2) p ++ rest) := hin
    have hwait : step s = .next (s.sampled.wait cmd left) := step_wait (by rwa [input_of_inputs hin]) hp
    rw [runEdges_succ _ hwait]
    exact ih (s.sampled.wait cmd left) rfl (by simp [hready]) (by simp [hin])

end Sys2Proof.Machine
end

section
/-! PROOFS. Reset that is held (10_state.md R32; 70_reset_and_hazards.md R180): the first edge with RST = 1 resets the
unit from any state, and those after it find it as it is, but for the tables that finish loading meanwhile. -/

namespace Sys2Proof.Machine

/-- An edge at which RST = 1 and the host reads nothing; REQ and CMD are free. -/
def EdgeInput.resetting (p : EdgeInput) : Prop := p.rst = true ∧ p.readResult = false ∧ p.readStatus = false

/-- `s` reset, the table loads that end at the edges of `held` noted, and the given inputs to come. -/
def State.resetThrough (held inputs : List EdgeInput) (s : State) : State :=
  { s with
    phase := .empty
    latch := latchAfterReset
    inputs := inputs
    tablesReady := s.tablesReady || held.any (fun p => p.tablesLoaded) }

theorem resetThrough_resetThrough (held held' inputs inputs' : List EdgeInput) (s : State) :
    (s.resetThrough held inputs).resetThrough held' inputs' = s.resetThrough (held ++ held') inputs' := by
  simp [State.resetThrough, Bool.or_assoc]

theorem step_resetting {s : State} {p : EdgeInput} {rest : List EdgeInput} (hin : s.inputs = p :: rest)
    (hp : p.resetting) : step s = .next (s.resetThrough [p] rest) := by
  obtain ⟨hrst, hr, hs⟩ := hp
  have hinput : s.input = p := input_of_inputs hin
  subst hinput
  rw [step_quiet hr hs, edgeAction_rst hrst]
  simp [State.resetEdge, State.sampled, State.resetThrough, hin]

/-- Once the edges of `before` have reset the unit, those of `held` only add their table loads. -/
theorem runEdges_resetThrough (s : State) (before held rest : List EdgeInput) (hheld : ∀ p ∈ held, p.resetting) :
    runEdges held.length (s.resetThrough before (held ++ rest)) = .next (s.resetThrough (before ++ held) rest) := by
  induction held generalizing before with
  | nil => rw [List.append_nil]; rfl
  | cons p held ih =>
    obtain ⟨hp, hheld⟩ := List.forall_mem_cons.mp hheld
    have hstep : step (s.resetThrough before (p :: (held ++ rest))) =
        .next (s.resetThrough (before ++ [p]) (held ++ rest)) := by
      rw [step_resetting rfl hp, resetThrough_resetThrough]
    rw [List.append_cons before p held]
    exact (runEdges_succ held.length hstep).trans (ih (before ++ [p]) hheld)

/-- Settles O47: the first edge resets the unit and the others keep it reset; RDY is then the bit of the tables, which
no edge clears. -/
theorem resetEdgesLeaveEmpty : Obligations.ResetEdgesLeaveEmpty := by
  intro held rest s hne hheld hin
  obtain ⟨p, later, rfl⟩ := List.exists_cons_of_ne_nil hne
  obtain ⟨hp, hlater⟩ := List.forall_mem_cons.mp hheld
  have hrun : runEdges (p :: later).length s = .next (s.resetThrough (p :: later) rest) :=
    (runEdges_succ later.length (step_resetting hin hp)).trans (runEdges_resetThrough s [p] later rest hlater)
  refine ⟨hrun, fun hready t ht => ?_⟩
  rw [hrun] at ht
  cases ht
  exact rdy_iff.mpr ⟨rfl, by simp [State.resetThrough, hready]⟩

end Sys2Proof.Machine
end
